-- ==== Sys2Proof/Word.lean ====
section
/-! DEFINITION. The widths the spec gives its quantities (spec/00_scope.md R7, R10, R11): bytes of 8 bits,
words of 32 bits, identifiers of 11 bits. Every quantity is unsigned; nothing is ever sign-extended (R10). -/

namespace Sys2Proof

/-- A byte: 8 bits (R11). -/
abbrev Byte := BitVec 8

/-- A table word, a request word, a header word: 32 bits (R20, R100, R91). -/
abbrev Word := BitVec 32

/-- A standard CAN identifier: `ID_W` = 11 bits (R7). -/
abbrev Ident := BitVec 11

/-- `zeros(n)`: the list of `n` bytes 0x00 (R11). -/
def zeros (n : Nat) : List Byte := List.replicate n 0

end Sys2Proof
end

