-- ==== Sys2Proof/Config.lean ====
section
/-! DEFINITION. What is fixed for one instance of the block: the constants of spec/00_scope.md R7, the open
parameters of R9 (a model takes each as an argument: `Params`, held by the state and never written), the default
bases of R8, and the two free values that stand for environment answers nobody has supplied. -/

namespace Sys2Proof.Config

/-- `ENDIAN` (R9, R12): the byte order of every 32-bit field on the wire. -/
inductive Endian where
  /-- little-endian, the default (R9, decision D2) -/
  | le
  /-- big-endian -/
  | be
deriving DecidableEq, Repr

/-- The five parameters the source leaves open (R9). Every claim about all states is a claim for all their values. -/
structure Params where
  /-- `ENDIAN`, default `LE` (D2) -/
  endian : Endian
  /-- `CNT_W`, the width of each event counter, default 32 (D5) -/
  cntW : Nat
  /-- `TICK_W`, the width of the tick counter, default 32 (D6) -/
  tickW : Nat
  /-- `TEL_FORCE_INDEX`, default false (D17) -/
  telForceIndex : Bool
  /-- `TICK_HZ`, default 1000 (D1): "informational, no rule reads it", and so no definition here reads it (R190) -/
  tickHz : Nat
deriving DecidableEq, Repr

/-- The defaults of R9. -/
def defaults : Params := ⟨.le, 32, 32, false, 1000⟩

/-- `BASE_T` of the reference deployment (R8). -/
def defaultBaseT : Ident := 0x200

/-- `BASE_C` of the reference deployment (R8). -/
def defaultBaseC : Ident := 0x300

/-- FREE VALUE (log entry 3): the controller's answer to the `n`-th `TxPush` where the state lists none.
`true` is `ok`. R15: "the block assumes nothing of them beyond their type". -/
opaque txPushAnswer : Nat → Bool

/-- FREE VALUE (log entry 3): the controller's answer to the `n`-th `FilterInstall` where the state lists none. -/
opaque filterAnswer : Nat → Bool

end Sys2Proof.Config
end

