-- ==== Sys2Proof/Machine/Records.lean ====
section
/-! DEFINITION. The two record types of the Shared State Table (spec/10_state.md R24, R25): 10 and 6 words of 32
bits, each an uninterpreted bit pattern (R53), with the spec's names for the words. -/

namespace Sys2Proof.Machine

/-- A Telemetry Record: words `w[0..9]` (R24). -/
structure TelRecord where
  w : Vector Word 10
deriving DecidableEq, Repr

/-- A Command Record: words `w[0..5]` (R25). -/
structure CmdRecord where
  w : Vector Word 6
deriving DecidableEq, Repr

/-- A record of either category: what `DecodeFrame` answers (R136). -/
inductive Record where
  | tel (r : TelRecord)
  | cmd (r : CmdRecord)
deriving DecidableEq, Repr

def TelRecord.zero : TelRecord := ⟨Vector.replicate 10 0⟩
def CmdRecord.zero : CmdRecord := ⟨Vector.replicate 6 0⟩

/-! The words by name. -/

def TelRecord.index (r : TelRecord) : Word := r.w[0]
def TelRecord.current (r : TelRecord) : Word := r.w[1]
def TelRecord.currentQ (r : TelRecord) : Word := r.w[2]
def TelRecord.velocity (r : TelRecord) : Word := r.w[3]
def TelRecord.position (r : TelRecord) : Word := r.w[4]
def TelRecord.vin (r : TelRecord) : Word := r.w[5]
def TelRecord.temp0 (r : TelRecord) : Word := r.w[6]
def TelRecord.temp1 (r : TelRecord) : Word := r.w[7]
def TelRecord.temp2 (r : TelRecord) : Word := r.w[8]
def TelRecord.errorCode (r : TelRecord) : Word := r.w[9]

def CmdRecord.index (r : CmdRecord) : Word := r.w[0]
def CmdRecord.enable (r : CmdRecord) : Word := r.w[1]
def CmdRecord.currentGoal (r : CmdRecord) : Word := r.w[2]
def CmdRecord.currentQGoal (r : CmdRecord) : Word := r.w[3]
def CmdRecord.velocityGoal (r : CmdRecord) : Word := r.w[4]
def CmdRecord.positionGoal (r : CmdRecord) : Word := r.w[5]

/-- `r with index := i` (R17): word 0 replaced, the rest as it was. -/
def TelRecord.withIndex (r : TelRecord) (i : Word) : TelRecord := ⟨r.w.set 0 i⟩

/-- `r with index := i` (R17). -/
def CmdRecord.withIndex (r : CmdRecord) (i : Word) : CmdRecord := ⟨r.w.set 0 i⟩

/-- The embedded index of a decoded record: its word 0 (R107). -/
def Record.index : Record → Word
  | .tel r => r.index
  | .cmd r => r.index

end Sys2Proof.Machine
end

