-- ==== Sys2Proof/Syntax.lean ====
section
/-! DEFINITION. The operations and events of the block, one constructor per row of spec/opcode_table.json
(spec/30_encoding.md R110), their operands, and the raw transfers at the block's ports that they are decoded from
(spec/10_state.md R49). -/

namespace Sys2Proof

/-- `ROLE` (R8): which of the two deployments this node is. -/
inductive Role where
  /-- the hub: takes in telemetry, emits commands -/
  | hub
  /-- a satellite: takes in commands, emits telemetry -/
  | sat
deriving DecidableEq, Repr

/-- `TICK_MODEL` (R8, R191): how ticks are consumed. -/
inductive TickModel where
  | counting
  | pending
deriving DecidableEq, Repr

/-- The `arr` bit of a request (R60, R100): which of the two arrays, which is also which of the two byte-mapped
address spaces. -/
inductive Arr where
  /-- `arr = 0`: the telemetry array, space `TEL` -/
  | tel
  /-- `arr = 1`: the command array, space `CMD` -/
  | cmd
deriving DecidableEq, Repr

/-- The role configuration that `INIT` takes from `wdata` (R101). -/
structure RoleConfig where
  role      : Role
  tickModel : TickModel
  baseT     : Ident
  baseC     : Ident
deriving DecidableEq, Repr

/-- A receive descriptor (format `RXD`, R91): one received frame as the controller hands it over.
`data` has exactly `LenOf(fdf, dlc)` bytes, which the controller sees to; `Instr.wellFormed` checks it. -/
structure RxFrame where
  id   : Ident
  dlc  : BitVec 4
  fdf  : Bool
  brs  : Bool
  data : List Byte
deriving DecidableEq, Repr

/-- The operations and events of the block (R110), one constructor per row of the opcode table. -/
inductive Instr where
  -- format REQ: host operations
  /-- `NOP` (R230) -/
  | nop
  /-- `INIT(wdata)` (R231), the configuration word read by R101 -/
  | init (cfg : RoleConfig)
  /-- `CONSUME_TICKS` (R194) -/
  | consumeTicks
  /-- `GET_DIAG` (R175) -/
  | getDiag
  /-- `SEND_CMD(idx)` (R212) -/
  | sendCmd (idx : BitVec 4)
  /-- `SEND_TEL(idx)` (R213) -/
  | sendTel (idx : BitVec 4)
  /-- `SEND_KEEPALIVE(imm)` (R214) -/
  | sendKeepalive (imm : Ident)
  /-- `TBL_READ(arr, idx, fld)` (R240) -/
  | tblRead (arr : Arr) (idx fld : BitVec 4)
  /-- `TBL_WRITE(arr, idx, fld, wdata)` (R241) -/
  | tblWrite (arr : Arr) (idx fld : BitVec 4) (wdata : Word)
  /-- `RD_CSR(imm)` (R246) -/
  | rdCsr (imm : BitVec 11)
  /-- reserved operation code 0xA (R248) -/
  | reservedA
  /-- reserved operation code 0xB (R248) -/
  | reservedB
  /-- reserved operation code 0xC (R248) -/
  | reservedC
  /-- reserved operation code 0xD (R248) -/
  | reservedD
  /-- reserved operation code 0xE (R248) -/
  | reservedE
  /-- reserved operation code 0xF (R248) -/
  | reservedF
  -- format EVENT: inputs from the environment
  /-- `TICK`, one timer interrupt (R192) -/
  | tick
  /-- `RX_ACT`, one activation of the receive handler (R166) -/
  | rxAct
  /-- `RX_FRAME(f)`, one drained frame (R167) -/
  | rxFrame (f : RxFrame)
  /-- `RX_ERR`, the read primitive reported an error (R173) -/
  | rxErr
  /-- `RESET`, process start (R300) -/
  | reset
  -- format RXD: a received frame, sorted by its identifier under the default bases (R108)
  /-- `RXD.TEL`: a received frame whose identifier is in 0x200..0x20E -/
  | rxdTel (f : RxFrame)
  /-- `RXD.CMD`: a received frame whose identifier is in 0x300..0x30E -/
  | rxdCmd (f : RxFrame)
  /-- `RXD.UNREC`: a received frame with any other identifier -/
  | rxdUnrec (f : RxFrame)
  -- format TXD: a frame the block offers to the controller (R92)
  /-- `TXD.CMD`: a command frame, `dlc` 12, 24 data bytes (R206) -/
  | txdCmd (id : Ident) (data : List Byte)
  /-- `TXD.KA`: a keepalive frame, `dlc` 13, 32 zero bytes (R209) -/
  | txdKa (id : Ident)
  /-- `TXD.TEL`: a telemetry frame, `dlc` 14, 48 data bytes (R208) -/
  | txdTel (id : Ident) (data : List Byte)
deriving DecidableEq, Repr

/-- One raw transfer at a port of the block (R49): what `decode` reads. An event of format EVENT has no encoding
(R110): it is a pulse on a line (`rst`, `tick_irq`, `rx_irq`) or an answer of the receive queue. `rxFrame` and `rxd`
are the same answer `Frame(f)` of the receive queue, named as the table's row `RX_FRAME` and as the table's three
rows of format RXD (log entry 5). -/
inductive Transfer where
  /-- `rst` asserted -/
  | rst
  /-- a pulse on `tick_irq` -/
  | tickIrq
  /-- a request on `rx_irq` -/
  | rxIrq
  /-- the receive queue answered `Frame`: the event RX_FRAME, header word and payload bytes -/
  | rxFrame (hdr : Word) (data : List Byte)
  /-- the receive queue answered `Err` -/
  | rxErr
  /-- a request on the host port: `REQ` and `wdata` -/
  | host (req wdata : Word)
  /-- the receive queue answered `Frame`, to be read as one of the table's rows of format RXD -/
  | rxd (hdr : Word) (data : List Byte)
  /-- a descriptor on the transmit port: header word and payload bytes -/
  | txd (hdr : Word) (data : List Byte)
deriving DecidableEq, Repr

end Sys2Proof
end

