-- ==== Sys2Proof/Machine/Codec.lean ====
section
/-! DEFINITION. The Frame Codec (spec/40_frame_codec.md R130 to R138) and the length code (spec/30_encoding.md R93 to
R95): pure functions between words, records and byte lists. -/

namespace Sys2Proof.Machine
open Sys2Proof.Config

/-! ### The data length code (R93, R94) -/

/-- `LenOf(fdf, dlc)`: the payload length in bytes (R93, decision D21). -/
def lenOf (fdf : Bool) (dlc : BitVec 4) : Nat :=
  if dlc.toNat ≤ 8 then dlc.toNat
  else if fdf then
    match dlc.toNat with
    | 9 => 12
    | 10 => 16
    | 11 => 20
    | 12 => 24
    | 13 => 32
    | 14 => 48
    | _ => 64
  else 8

/-- `DlcOf(n)`: the inverse of `LenOf(1, ·)`, defined only for the lengths the table has (R94). -/
def dlcOf (n : Nat) : Option (BitVec 4) :=
  if n ≤ 8 then some (BitVec.ofNat 4 n)
  else match n with
    | 12 => some 9
    | 16 => some 10
    | 20 => some 11
    | 24 => some 12
    | 32 => some 13
    | 48 => some 14
    | 64 => some 15
    | _ => none

/-! ### Words and bytes (R12) -/

/-- `bytes32(w)` under `ENDIAN` (R12). -/
def bytes32 (e : Endian) (w : Word) : List Byte :=
  match e with
  | .le => [w.extractLsb' 0 8, w.extractLsb' 8 8, w.extractLsb' 16 8, w.extractLsb' 24 8]
  | .be => [w.extractLsb' 24 8, w.extractLsb' 16 8, w.extractLsb' 8 8, w.extractLsb' 0 8]

/-- `word32(B)` of a 4-byte list under `ENDIAN` (R12). No caller gives it fewer than 4 bytes. -/
def word32 (e : Endian) (b : List Byte) : Word :=
  match e with
  | .le => b.getD 3 0 ++ b.getD 2 0 ++ b.getD 1 0 ++ b.getD 0 0
  | .be => b.getD 0 0 ++ b.getD 1 0 ++ b.getD 2 0 ++ b.getD 3 0

/-- Word `k` of a record image: the bytes `B[4*k .. 4*k+3]` as a word (R132, R134). -/
def wordAt (e : Endian) (b : List Byte) (k : Nat) : Word :=
  word32 e ((b.drop (4 * k)).take 4)

/-! ### Records and their wire images (R131 to R134) -/

/-- `EncTel(r)`: 40 bytes (R131). -/
def encTel (e : Endian) (r : TelRecord) : List Byte := r.w.toList.flatMap (bytes32 e)

/-- `DecTel(B)` of a 40-byte list (R132). -/
def decTel (e : Endian) (b : List Byte) : TelRecord := ⟨Vector.ofFn fun k => wordAt e b k⟩

/-- `EncCmd(r)`: 24 bytes (R133). -/
def encCmd (e : Endian) (r : CmdRecord) : List Byte := r.w.toList.flatMap (bytes32 e)

/-- `DecCmd(B)` of a 24-byte list (R134). -/
def decCmd (e : Endian) (b : List Byte) : CmdRecord := ⟨Vector.ofFn fun k => wordAt e b k⟩

/-! ### Payloads (R135) -/

/-- `TelPayload(r)`: the record padded to 48 bytes (R135). -/
def telPayload (e : Endian) (r : TelRecord) : List Byte := encTel e r ++ zeros 8

/-- `CmdPayload(r)`: the record's 24 bytes, unpadded (R135). -/
def cmdPayload (e : Endian) (r : CmdRecord) : List Byte := encCmd e r

/-- `KaPayload`: 32 zero bytes, no record (R99, R135, 90_conflicts.md C1). -/
def kaPayload : List Byte := zeros 32

/-! ### The length-checked decode of the receive path (R136) -/

/-- A record category: `TelCat` or `CmdCat` (R136). -/
inductive Category where
  | telCat
  | cmdCat
deriving DecidableEq, Repr

/-- `RecSize(cat)` in bytes (R136). -/
def recSize : Category → Nat
  | .telCat => 40
  | .cmdCat => 24

/-- `DecodeFrame(cat, data)` (R136): the record in the first `RecSize(cat)` bytes, whatever follows them; `none` is
`FramingError`, a payload shorter than the record. -/
def decodeFrame (e : Endian) (cat : Category) (data : List Byte) : Option Record :=
  if data.length < recSize cat then none
  else
    match cat with
    | .telCat => some (.tel (decTel e (data.take 40)))
    | .cmdCat => some (.cmd (decCmd e (data.take 24)))

end Sys2Proof.Machine
end

