-- ==== Sys2Proof/Machine/Router.lean ====
section
/-! DEFINITION. The Identifier Router (spec/41_identifier_router.md R150 to R156): pure functions of the configured
bases, an identifier and an embedded index; and the configuration-time check that makes the two ranges disjoint
(spec/45_host_port_and_init.md R232). -/

namespace Sys2Proof.Machine
open Sys2Proof.Config

/-- `SlotKind` (R150): the class of an identifier, or the slot a frame is routed to. -/
inductive SlotKind where
  | tel (i : Fin 15)
  | cmd (i : Fin 15)
  | unrec
deriving DecidableEq, Repr

/-- `Classify(id)` (R151) under the bases `bt` and `bc`. -/
def classify (bt bc id : Ident) : SlotKind :=
  if h : bt.toNat ≤ id.toNat ∧ id.toNat ≤ bt.toNat + 14 then .tel ⟨id.toNat - bt.toNat, by omega⟩
  else if h : bc.toNat ≤ id.toNat ∧ id.toNat ≤ bc.toNat + 14 then .cmd ⟨id.toNat - bc.toNat, by omega⟩
  else .unrec

/-- `Resolve(k, e)` (R153): the embedded index wins when it is below 15; else the identifier's slot stands, the rule
the spec names `FALLBACK_TO_IDENTIFIER` (R154). -/
def resolve (k : Fin 15) (e : Word) : Fin 15 :=
  if h : e.toNat < 15 then ⟨e.toNat, h⟩ else k

/-- `Route(id, e_opt)` (R155). -/
def route (bt bc id : Ident) (e : Option Word) : SlotKind :=
  match classify bt bc id, e with
  | .unrec, _ => .unrec
  | .tel k, none => .tel k
  | .tel k, some e => .tel (resolve k e)
  | .cmd k, none => .cmd k
  | .cmd k, some e => .cmd (resolve k e)

/-- `CfgValid(bt, bc)` (R232): both ranges lie in the 11-bit identifier space and do not overlap. -/
def cfgValid (bt bc : Ident) : Bool :=
  decide (bt.toNat + 14 ≤ 0x7FF) && decide (bc.toNat + 14 ≤ 0x7FF)
    && (decide (bt.toNat + 15 ≤ bc.toNat) || decide (bc.toNat + 15 ≤ bt.toNat))

/-- The table's row `RXD.TEL`, match 0x200 under mask 0x7F0 and the low four bits not 0xF (R108). -/
def isDefaultTel (id : Ident) : Bool :=
  decide (id &&& 0x7F0 = 0x200) && decide (id.extractLsb' 0 4 ≠ 0xF)

/-- The table's row `RXD.CMD`, match 0x300 under mask 0x7F0 and the low four bits not 0xF (R108). -/
def isDefaultCmd (id : Ident) : Bool :=
  decide (id &&& 0x7F0 = 0x300) && decide (id.extractLsb' 0 4 ≠ 0xF)

end Sys2Proof.Machine
end

