-- ==== Sys2Proof/WellFormed.lean ====
section
/-! DEFINITION. Which terms of `Instr` an encoding can give: a descriptor carries exactly as many bytes as its length
code says (spec/30_encoding.md R91, R92), a frame of format RXD lies in its row's class (R108), and a telemetry
frame's last 8 bytes are the padding (R97). Every operand of a host operation is as wide as its field, so every
host operation is well formed; whether an operand is VALID (R105) is the operation's own test. -/

namespace Sys2Proof

/-- `data` has exactly `LenOf(fdf, dlc)` bytes (R91). -/
def RxFrame.wellFormed (f : RxFrame) : Bool :=
  decide (f.data.length = Machine.lenOf f.fdf f.dlc)

/-- The well-formedness of an instruction. -/
def Instr.wellFormed : Instr → Bool
  | .nop => true
  | .init _ => true
  | .consumeTicks => true
  | .getDiag => true
  | .sendCmd _ => true
  | .sendTel _ => true
  | .sendKeepalive _ => true
  | .tblRead _ _ _ => true
  | .tblWrite _ _ _ _ => true
  | .rdCsr _ => true
  | .reservedA => true
  | .reservedB => true
  | .reservedC => true
  | .reservedD => true
  | .reservedE => true
  | .reservedF => true
  | .tick => true
  | .rxAct => true
  | .rxFrame f => f.wellFormed
  | .rxErr => true
  | .reset => true
  | .rxdTel f => f.wellFormed && Machine.isDefaultTel f.id
  | .rxdCmd f => f.wellFormed && Machine.isDefaultCmd f.id
  | .rxdUnrec f => f.wellFormed && !Machine.isDefaultTel f.id && !Machine.isDefaultCmd f.id
  | .txdCmd _ data => decide (data.length = 24)
  | .txdKa _ => true
  | .txdTel _ data => decide (data.length = 48) && decide (data.drop 40 = zeros 8)

end Sys2Proof
end

