-- ==== Sys2Proof/Decode.lean ====
section
/-! DEFINITION. The decoder from port transfers to operations and events, total and rejecting by name, then the
encoder (spec/30_encoding.md R91, R92, R100, R101, R108, R110), then the reading of an opcode-table word for the host.
A transfer names its port; the same 32-bit word means different things on different ports. -/

namespace Sys2Proof

/-- Why a transfer is no operation or event of the block. -/
inductive DecodeError where
  /-- `hdr[31:17]` of a received frame is not zero: "never set on receive" (R91) -/
  | rxHeaderReserved
  /-- a received frame's payload does not have `LenOf(fdf, dlc)` bytes (R91) -/
  | rxPayloadLength
  /-- a transmit header that matches no row of format TXD: "value the block always produces" (R92) -/
  | txHeader
  /-- a transmit payload that is not as long as its length code says (R92) -/
  | txPayloadLength
  /-- a transmit payload whose padding, or whose keepalive bytes, are not zero (R97, R99) -/
  | txPadding
deriving DecidableEq, Repr

/-! ### Fields of the words -/

/-- The role configuration in `wdata` of `INIT`, which has the layout of the register `CFG` (R101, R37);
bits [31:24] are ignored. -/
def decodeConfig (wdata : Word) : RoleConfig where
  role := if wdata.getLsbD 0 then .sat else .hub
  tickModel := if wdata.getLsbD 1 then .pending else .counting
  baseT := wdata.extractLsb' 2 11
  baseC := wdata.extractLsb' 13 11

/-- The `arr` bit of a request (R100). -/
def decodeArr (req : Word) : Arr := if req.getLsbD 27 then .cmd else .tel

/-- The descriptor that a receive header and its payload stand for (R91). -/
def rxFrameOf (hdr : Word) (data : List Byte) : RxFrame where
  id := hdr.extractLsb' 0 11
  dlc := hdr.extractLsb' 11 4
  fdf := hdr.getLsbD 15
  brs := hdr.getLsbD 16
  data := data

/-! ### The decoder -/

/-- A host request (R100, R110). Every 32-bit word is a request; a field the operation does not use is ignored. -/
def decodeRequest (req wdata : Word) : Instr :=
  let idx : BitVec 4 := req.extractLsb' 23 4
  let fld : BitVec 4 := req.extractLsb' 19 4
  let imm : BitVec 11 := req.extractLsb' 0 11
  match (req.extractLsb' 28 4).toNat with
  | 0x0 => .nop
  | 0x1 => .init (decodeConfig wdata)
  | 0x2 => .consumeTicks
  | 0x3 => .getDiag
  | 0x4 => .sendCmd idx
  | 0x5 => .sendTel idx
  | 0x6 => .sendKeepalive imm
  | 0x7 => .tblRead (decodeArr req) idx fld
  | 0x8 => .tblWrite (decodeArr req) idx fld wdata
  | 0x9 => .rdCsr imm
  | 0xA => .reservedA
  | 0xB => .reservedB
  | 0xC => .reservedC
  | 0xD => .reservedD
  | 0xE => .reservedE
  | _ => .reservedF

/-- A received frame, checked against what R91 says the controller hands over. -/
def decodeRxFrame (hdr : Word) (data : List Byte) : Except DecodeError RxFrame :=
  if hdr.extractLsb' 17 15 ≠ 0 then .error .rxHeaderReserved
  else if (rxFrameOf hdr data).wellFormed then .ok (rxFrameOf hdr data)
  else .error .rxPayloadLength

/-- The row of format RXD that a received frame falls under (R108). -/
def rxdRow (f : RxFrame) : Instr :=
  if Machine.isDefaultTel f.id then .rxdTel f
  else if Machine.isDefaultCmd f.id then .rxdCmd f
  else .rxdUnrec f

/-- A transmit descriptor: the three rows of format TXD (R92, R97 to R99), told apart by `hdr[31:11]`. -/
def decodeTxd (hdr : Word) (data : List Byte) : Except DecodeError Instr :=
  let id : Ident := hdr.extractLsb' 0 11
  match (hdr.extractLsb' 11 21).toNat with
  | 60 => if data.length ≠ 24 then .error .txPayloadLength else .ok (.txdCmd id data)
  | 61 =>
    if data.length ≠ 32 then .error .txPayloadLength
    else if data ≠ zeros 32 then .error .txPadding
    else .ok (.txdKa id)
  | 62 =>
    if data.length ≠ 48 then .error .txPayloadLength
    else if data.drop 40 ≠ zeros 8 then .error .txPadding
    else .ok (.txdTel id data)
  | _ => .error .txHeader

/-- The decoder: total on every transfer. -/
def decode : Transfer → Except DecodeError Instr
  | .rst => .ok .reset
  | .tickIrq => .ok .tick
  | .rxIrq => .ok .rxAct
  | .rxFrame hdr data => (decodeRxFrame hdr data).map .rxFrame
  | .rxErr => .ok .rxErr
  | .host req wdata => .ok (decodeRequest req wdata)
  | .rxd hdr data => (decodeRxFrame hdr data).map rxdRow
  | .txd hdr data => decodeTxd hdr data

/-! ### The encoder -/

/-- `REQ` from its fields, the reserved bits [18:11] zero (R100). -/
def requestWord (op : BitVec 4) (arr : BitVec 1) (idx fld : BitVec 4) (imm : BitVec 11) : Word :=
  op ++ arr ++ idx ++ fld ++ (0 : BitVec 8) ++ imm

/-- The `arr` bit (R100). -/
def arrBit : Arr → BitVec 1
  | .tel => 0
  | .cmd => 1

/-- Bit 0 of the configuration word (R101). -/
def roleField : Role → BitVec 1
  | .hub => 0
  | .sat => 1

/-- Bit 1 of the configuration word (R101). -/
def tickModelField : TickModel → BitVec 1
  | .counting => 0
  | .pending => 1

/-- The configuration word, bits [31:24] zero (R101). -/
def encodeConfig (c : RoleConfig) : Word :=
  (0 : BitVec 8) ++ c.baseC ++ c.baseT ++ tickModelField c.tickModel ++ roleField c.role

/-- The header word of a received frame (R91). -/
def rxHeader (f : RxFrame) : Word :=
  (0 : BitVec 15) ++ BitVec.ofBool f.brs ++ BitVec.ofBool f.fdf ++ f.dlc ++ f.id

/-- The header word of a transmitted frame (R92): bits `ide`, `rtr`, `brs`, `fdf`, then `dlc` and `id`. -/
def txHeader (ide rtr brs fdf : Bool) (dlc : BitVec 4) (id : Ident) : Word :=
  (0 : BitVec 13) ++ BitVec.ofBool ide ++ BitVec.ofBool rtr ++ BitVec.ofBool brs ++ BitVec.ofBool fdf ++ dlc ++ id

/-- A host request with no `wdata`. -/
def request (op : BitVec 4) (arr : BitVec 1 := 0) (idx fld : BitVec 4 := 0) (imm : BitVec 11 := 0)
    (wdata : Word := 0) : Transfer :=
  .host (requestWord op arr idx fld imm) wdata

/-- The transfer that stands for an instruction, every ignored bit zero. -/
def encode : Instr → Transfer
  | .nop => request 0x0
  | .init cfg => request 0x1 (wdata := encodeConfig cfg)
  | .consumeTicks => request 0x2
  | .getDiag => request 0x3
  | .sendCmd idx => request 0x4 (idx := idx)
  | .sendTel idx => request 0x5 (idx := idx)
  | .sendKeepalive imm => request 0x6 (imm := imm)
  | .tblRead arr idx fld => request 0x7 (arrBit arr) idx fld
  | .tblWrite arr idx fld wdata => request 0x8 (arrBit arr) idx fld (wdata := wdata)
  | .rdCsr imm => request 0x9 (imm := imm)
  | .reservedA => request 0xA
  | .reservedB => request 0xB
  | .reservedC => request 0xC
  | .reservedD => request 0xD
  | .reservedE => request 0xE
  | .reservedF => request 0xF
  | .tick => .tickIrq
  | .rxAct => .rxIrq
  | .rxFrame f => .rxFrame (rxHeader f) f.data
  | .rxErr => .rxErr
  | .reset => .rst
  | .rxdTel f => .rxd (rxHeader f) f.data
  | .rxdCmd f => .rxd (rxHeader f) f.data
  | .rxdUnrec f => .rxd (rxHeader f) f.data
  | .txdCmd id data => .txd (txHeader false false true true 12 id) data
  | .txdKa id => .txd (txHeader false false true true 13 id) (zeros 32)
  | .txdTel id data => .txd (txHeader false false true true 14 id) data

/-! ### Words of the opcode table (log entry 4) -/

/-- The first `n` bytes of a number, least significant first. -/
def bytesOf : Nat → Nat → List Byte
  | 0, _ => []
  | n + 1, v => BitVec.ofNat 8 v :: bytesOf n (v / 256)

/-- The transfer that an instruction of the opcode table stands for, its bits `w` numbered as the table numbers them:
bits 31..0 are the request or header word, bits 63..32 are `wdata` of a request, and bits 32 + 8k .. 39 + 8k are
payload byte `k` of a frame. The table gives three formats of 32-bit words and no bit that tells them apart, so the
row whose fixed bits the word has is taken, formats RXD and TXD before REQ (log entry 4). -/
def tableTransfer (nbits w : Nat) : Transfer :=
  let v := w % 2 ^ nbits
  let hdr : Word := BitVec.ofNat 32 v
  let rest := v / 2 ^ 32
  let id : Ident := hdr.extractLsb' 0 11
  if hdr.extractLsb' 17 15 = 0 ∧ (Machine.isDefaultTel id || Machine.isDefaultCmd id) = true then
    .rxd hdr (bytesOf (Machine.lenOf (hdr.getLsbD 15) (hdr.extractLsb' 11 4)) rest)
  else
    match (hdr.extractLsb' 11 21).toNat with
    | 60 => .txd hdr (bytesOf 24 rest)
    | 61 => .txd hdr (bytesOf 32 rest)
    | 62 => .txd hdr (bytesOf 48 rest)
    | _ => .host hdr (BitVec.ofNat 32 rest)

/-- The instruction the decoder reads from a word of the opcode table. -/
def decodeTableWord (nbits w : Nat) : Option Instr :=
  (decode (tableTransfer nbits w)).toOption

end Sys2Proof
end

