-- ==== Sys2Proof/Machine/Operands.lean ====
section
/-! DEFINITION. Operand validity (spec/30_encoding.md R105): every slot and word number is range-checked here, once,
and what passes is a subscript that cannot be out of range. "out-of-range values must not be dereferenced" (R26). -/

namespace Sys2Proof.Machine

/-- A slot or motor index: valid when `idx <= 14` (R105). -/
def slotOf (idx : BitVec 4) : Option (Fin 15) :=
  if h : idx.toNat < 15 then some ⟨idx.toNat, h⟩ else none

/-- A word number of a telemetry record: valid when `fld <= 9` (R105). -/
def telField (fld : BitVec 4) : Option (Fin 10) :=
  if h : fld.toNat < 10 then some ⟨fld.toNat, h⟩ else none

/-- A word number of a command record: valid when `fld <= 5` (R105). -/
def cmdField (fld : BitVec 4) : Option (Fin 6) :=
  if h : fld.toNat < 6 then some ⟨fld.toNat, h⟩ else none

/-- One word of the table that passed the range checks: which array, slot and word (R23, R105). -/
inductive WordRef where
  | tel (i : Fin 15) (k : Fin 10)
  | cmd (i : Fin 15) (k : Fin 6)
deriving DecidableEq, Repr

/-- The word that `arr`, `idx`, `fld` of a request name; `none` is `BAD_INDEX` (R240, R241). -/
def wordRef (arr : Arr) (idx fld : BitVec 4) : Option WordRef :=
  match slotOf idx with
  | none => none
  | some i =>
    match arr with
    | .tel => (telField fld).map (.tel i)
    | .cmd => (cmdField fld).map (.cmd i)

end Sys2Proof.Machine
end

