-- ==== Sys2Proof/Machine/State.lean ====
section
/-! DEFINITION. The state record `S` of spec/10_state.md R20, field by field, the instance parameters of
spec/00_scope.md R9, and the environment the block talks to (R45 to R48): what is about to arrive at its ports, and
what it has answered and sent. Plain data throughout. -/

namespace Sys2Proof.Machine
open Sys2Proof.Config

/-- `S.mode` (R21). The pattern 3 is never held, so it is no value of the type. -/
inductive Mode where
  /-- after reset, until `INIT` -/
  | unconfigured
  /-- after a successful `INIT` -/
  | running
  /-- after an unsuccessful `INIT`, until reset -/
  | failed
deriving DecidableEq, Repr

/-- The cause of a response (R262). Codes 9 to 15 are never produced. -/
inductive Cause where
  /-- 0: `ok = 1` -/
  | none
  /-- 1: a reserved operation code -/
  | illegalOp
  /-- 2: the operation needs `RUNNING` -/
  | notRunning
  /-- 3: an operand out of range -/
  | badIndex
  /-- 4: not this role's operation or array -/
  | wrongRole
  /-- 5: `TxPush` answered `fail` -/
  | txFail
  /-- 6: `CfgValid` false -/
  | cfgInvalid
  /-- 7: `FilterInstall` answered `fail` -/
  | hwFail
  /-- 8: `INIT` outside `UNCONFIGURED` -/
  | alreadyInit
deriving DecidableEq, Repr

/-- The 4-bit code of a cause (R262). -/
def Cause.code : Cause → BitVec 4
  | .none => 0
  | .illegalOp => 1
  | .notRunning => 2
  | .badIndex => 3
  | .wrongRole => 4
  | .txFail => 5
  | .cfgInvalid => 6
  | .hwFail => 7
  | .alreadyInit => 8

/-- `RSP`, the response to a host request (R102, R103). `diag` is `none` for `valid = 0`, which is also what every
operation other than `GET_DIAG` gives. -/
structure Response where
  ok    : Bool
  cause : Cause
  rdata : Word
  diag  : Option RxFrame
deriving DecidableEq, Repr

/-- The Diagnostic Snapshot `S.diag` (R31). -/
structure Diag where
  pending : Bool
  id      : Ident
  dlc     : BitVec 4
  brs     : Bool
  fdf     : Bool
  data    : Vector Byte 64
deriving DecidableEq, Repr

/-- The snapshot after reset (R50). -/
def Diag.zero : Diag := ⟨false, 0, 0, false, false, Vector.replicate 64 0⟩

/-- A transmit descriptor (format `TXD`, R92): what the block offers to the controller. -/
structure TxFrame where
  id   : Ident
  dlc  : BitVec 4
  fdf  : Bool
  brs  : Bool
  rtr  : Bool
  ide  : Bool
  data : List Byte
deriving DecidableEq, Repr

/-- An answer of `RxPop()` (R15). -/
inductive RxAnswer where
  /-- the queue holds no frame -/
  | empty
  /-- the read failed -/
  | err
  /-- the next frame -/
  | frame (f : RxFrame)
deriving DecidableEq, Repr

/-- The environment: the input streams of R331 and the two output streams an observer sees. It is NOT state of the
block (R45 to R48); `RESET` leaves it as it is (R301). -/
structure Env where
  /-- the events still to come, first one first (R70, R273; log entry 2) -/
  inbox : List Transfer
  /-- the answers `RxPop()` will give, first one first; after the last it answers `Empty` (log entry 2) -/
  rxAnswers : List RxAnswer
  /-- the answers `TxPush` will give, `true` for `ok`; after the last, the free value (log entry 3) -/
  txAnswers : List Bool
  /-- the answers `FilterInstall()` will give, `true` for `ok`; after the last, the free value (log entry 3) -/
  fltAnswers : List Bool
  /-- MODEL's own: how many `TxPush` requests were made; the argument of the free value -/
  txPushes : Nat
  /-- MODEL's own: how many `FilterInstall` requests were made; the argument of the free value -/
  fltRequests : Nat
  /-- the descriptors that `TxPush` accepted, in order (R46) -/
  sent : List TxFrame
  /-- the responses to host requests, in order (R331) -/
  responses : List Response
deriving DecidableEq, Repr

/-- An environment in which nothing is about to arrive and nothing has left. -/
def Env.quiet : Env := ⟨[], [], [], [], 0, 0, [], []⟩

/-- The state: the record `S` of R20, the parameters of R9, the environment. -/
structure State where
  /-- `S.mode`, 2 bits (R21) -/
  mode : Mode
  /-- `S.role`, 1 bit (R22) -/
  role : Role
  /-- `S.tick_model`, 1 bit (R22) -/
  tickModel : TickModel
  /-- `S.base_t`, 11 bits (R22) -/
  baseT : Ident
  /-- `S.base_c`, 11 bits (R22) -/
  baseC : Ident
  /-- `S.tel[0..14]` (R24, R26) -/
  tel : Vector TelRecord 15
  /-- `S.cmd[0..14]` (R25, R26) -/
  cmd : Vector CmdRecord 15
  /-- `S.diag` (R31) -/
  diag : Diag
  /-- `S.tick`, `TICK_W` bits: below `2 ^ params.tickW` (R32) -/
  tick : Nat
  /-- `S.cnt_total`, `CNT_W` bits: below `2 ^ params.cntW` (R33) -/
  cntTotal : Nat
  /-- `S.cnt_pdo`, `CNT_W` bits (R34) -/
  cntPdo : Nat
  /-- `S.cnt_other`, `CNT_W` bits (R35) -/
  cntOther : Nat
  /-- the parameters of this instance (R9); no operation writes them -/
  params : Params
  /-- the environment (R45 to R48) -/
  env : Env
deriving DecidableEq, Repr

/-- Every element of `S` at its reset value (R50), for the given parameters and environment. -/
def State.resetWith (params : Params) (env : Env) : State where
  mode := .unconfigured
  role := .hub
  tickModel := .counting
  baseT := 0
  baseC := 0
  tel := Vector.replicate 15 TelRecord.zero
  cmd := Vector.replicate 15 CmdRecord.zero
  diag := Diag.zero
  tick := 0
  cntTotal := 0
  cntPdo := 0
  cntOther := 0
  params := params
  env := env

/-- The block right after reset (R50), with the default parameters of R9 and a quiet environment. -/
def State.reset : State := .resetWith Config.defaults Env.quiet

/-- Why the machine stops with a fault: never. "The block raises no synchronous exception and takes no trap" (R260);
every failure is a response or is absorbed, so the type has no constructor. Safe. -/
inductive Fault
deriving DecidableEq, Repr

/-- Why a step has no meaning. -/
inductive Refusal where
  /-- raised by an arm of `exec` for an instruction that has no meaning yet; no arm raises it. Safe. -/
  | notModelled (mnemonic : String)
  /-- raised by `step` for a transfer that the ports cannot carry by R91 or R92 (a descriptor of the wrong length, set
  reserved bits); no operation or event raises it. Safe: the machine stops where the environment breaks its contract. -/
  | badTransfer (why : DecodeError)
deriving DecidableEq, Repr

end Sys2Proof.Machine
end

