-- ==== Sys2Proof/Machine/Ops.lean ====
section
/-! DEFINITION. The named operations over the state that the meanings share: responses (spec/00_scope.md R16), the
environment primitives `TxPush`, `FilterInstall` and the next event (R15, R70), table reads and writes (R13, R64),
the byte view of the two arrays (spec/20_memory.md R60 to R64), and reset (spec/70_reset_and_hazards.md R300).

There is no taking of an exception and no return from one: "No operation diverts control; no state is saved" (R260),
"Entering a handler saves nothing and changes no mode, mask or stack in the block; leaving it restores nothing"
(R271). What stands in their place is `State.refuse`, a response with `ok = 0`. -/

namespace Sys2Proof.Machine
open Sys2Proof.Config

/-! ### Responses (R16, R102) -/

/-- `respond`: the response goes to the host (R16). -/
def State.respond (s : State) (r : Response) : State :=
  { s with env := { s.env with responses := s.env.responses ++ [r] } }

/-- `respond(ok = 1, cause = 0, rdata)` (R102). -/
def State.accept (s : State) (rdata : Word) : State := s.respond ⟨true, .none, rdata, none⟩

/-- `respond(ok = 0, cause, rdata = 0)`: the operation is refused (R19, R102, R263). -/
def State.refuse (s : State) (cause : Cause) : State := s.respond ⟨false, cause, 0, none⟩

/-! ### Roles (R27, R152) -/

/-- `Inbound(role)` (R152). -/
def inbound : Role → Category
  | .hub => .telCat
  | .sat => .cmdCat

/-- `Owned(role)`: the array only the Receive Drain writes (R27). -/
def ownedArr : Role → Arr
  | .hub => .tel
  | .sat => .cmd

/-- `Local(role)`: the array the host side writes and the Transmit Assembler reads (R27). -/
def localArr : Role → Arr
  | .hub => .cmd
  | .sat => .tel

/-! ### The Shared State Table (R13, R23, R26) -/

/-- The word a checked reference names (R13). -/
def State.readWord (s : State) : WordRef → Word
  | .tel i k => (s.tel[i]).w[k]
  | .cmd i k => (s.cmd[i]).w[k]

/-- Replace one word (R13, R241). -/
def State.writeWord (s : State) (v : Word) : WordRef → State
  | .tel i k => { s with tel := s.tel.set i ⟨(s.tel[i]).w.set k v⟩ }
  | .cmd i k => { s with cmd := s.cmd.set i ⟨(s.cmd[i]).w.set k v⟩ }

/-- Replace one whole record, in the array of its category (R170). -/
def State.writeRecord (s : State) (i : Fin 15) : Record → State
  | .tel r => { s with tel := s.tel.set i r }
  | .cmd r => { s with cmd := s.cmd.set i r }

/-! ### The byte view of the two arrays (R60 to R64)

The block has no address bus: no operation takes a byte address (R60, R66). This view is the layout that the source
guarantees to the secondary fieldbus stack (R61). -/

/-- The address of a word in its space: stride 40 in `TEL` (R61), stride 24 in `CMD` (R62), 4 bytes a word. -/
def WordRef.addr : WordRef → Nat
  | .tel i k => 40 * i + 4 * k
  | .cmd i k => 24 * i + 4 * k

/-- The space a word lies in (R60). -/
def WordRef.space : WordRef → Arr
  | .tel _ _ => .tel
  | .cmd _ _ => .cmd

/-- The bytes of a space, address 0 first: the records' images one after another, no padding (R61, R62, R64). -/
def memImage (s : State) : Arr → List Byte
  | .tel => s.tel.toList.flatMap (encTel s.params.endian)
  | .cmd => s.cmd.toList.flatMap (encCmd s.params.endian)

/-- One byte of a space; `none` past its end (R60). -/
def memByte (s : State) (sp : Arr) (a : Nat) : Option Byte := (memImage s sp)[a]?

/-- `MemRead(space, addr, n)` (R14, R64). -/
def memRead (s : State) (sp : Arr) (a n : Nat) : List Byte := ((memImage s sp).drop a).take n

/-- `MemWrite(space, addr, n, B)` with `n = len(B)` (R14, R64): a whole word at a multiple of 4, or a whole record at a
multiple of the stride; `none` for every other combination, which is never issued. -/
def memWrite (s : State) (sp : Arr) (a : Nat) (b : List Byte) : Option State :=
  match sp with
  | .tel =>
    if h : a < 600 then
      if b.length = 4 ∧ a % 4 = 0 then
        some (s.writeWord (word32 s.params.endian b) (.tel ⟨a / 40, by omega⟩ ⟨a % 40 / 4, by omega⟩))
      else if b.length = 40 ∧ a % 40 = 0 then
        some (s.writeRecord ⟨a / 40, by omega⟩ (.tel (decTel s.params.endian b)))
      else none
    else none
  | .cmd =>
    if h : a < 360 then
      if b.length = 4 ∧ a % 4 = 0 then
        some (s.writeWord (word32 s.params.endian b) (.cmd ⟨a / 24, by omega⟩ ⟨a % 24 / 4, by omega⟩))
      else if b.length = 24 ∧ a % 24 = 0 then
        some (s.writeRecord ⟨a / 24, by omega⟩ (.cmd (decCmd s.params.endian b)))
      else none
    else none

/-! ### The controller (R15, R46, R47) -/

/-- What the controller will answer to the next `TxPush`: an input (R46); a free value where none is listed
(log entry 3). -/
def State.txAnswer (s : State) : Bool :=
  match s.env.txAnswers with
  | a :: _ => a
  | [] => Config.txPushAnswer s.env.txPushes

/-- `TxPush(g)` (R15, R46): the descriptor is offered once; an accepted one is recorded as output. -/
def State.txPush (s : State) (g : TxFrame) : State :=
  { s with env := { s.env with
      txAnswers := s.env.txAnswers.tail
      txPushes := s.env.txPushes + 1
      sent := if s.txAnswer then s.env.sent ++ [g] else s.env.sent } }

/-- What the controller will answer to the next `FilterInstall()` (R15, R233); a free value where none is listed
(log entry 3). -/
def State.filterAnswer (s : State) : Bool :=
  match s.env.fltAnswers with
  | a :: _ => a
  | [] => Config.filterAnswer s.env.fltRequests

/-- `FilterInstall()` (R15, R47): the request uses up one answer; the filter is the controller's state. -/
def State.filterInstall (s : State) : State :=
  { s with env := { s.env with
      fltAnswers := s.env.fltAnswers.tail
      fltRequests := s.env.fltRequests + 1 } }

/-- `RxPop()` (R15, R45): the next answer of the receive queue; `Empty` once the listed answers are used up
(log entry 2). -/
def State.rxPop (s : State) : RxAnswer × State :=
  match s.env.rxAnswers with
  | [] => (.empty, s)
  | a :: rest => (a, { s with env := { s.env with rxAnswers := rest } })

/-! ### Events (R70) and reset (R300) -/

/-- The next event, and the state with it taken; `none` while none is about to arrive. -/
def State.nextTransfer (s : State) : Option (Transfer × State) :=
  match s.env.inbox with
  | [] => none
  | x :: rest => some (x, { s with env := { s.env with inbox := rest } })

/-- The state in which `x` is the next event. -/
def State.present (s : State) (x : Transfer) : State :=
  { s with env := { s.env with inbox := x :: s.env.inbox } }

/-- Every element of `S` takes its reset value (R50, R300); the parameters and the environment are not the block's to
reset (R9, R301). -/
def State.resetBlock (s : State) : State := .resetWith s.params s.env

end Sys2Proof.Machine
end

