-- ==== Sys2Proof/Machine/HostPort.lean ====
section
/-! DEFINITION. The host port (spec/45_host_port_and_init.md): `NOP`, `INIT`, `TBL_READ`, `TBL_WRITE`, `RD_CSR`, the
reserved operation codes; and `RESET` (spec/70_reset_and_hazards.md R300). Mode gating is R249, the order of the tests
R263. -/

namespace Sys2Proof.Machine

/-- What a meaning answers. The block's operations always go on (R16, R260). -/
abbrev Result := Host.Outcome State Fault Refusal

/-- `NOP` (R230). -/
def execNop (s : State) : Result := .next (s.accept 0)

/-- The configuration latched by a successful `INIT`, with `S.mode <- RUNNING` (R22, R231). -/
def State.latch (s : State) (cfg : RoleConfig) : State :=
  { s with
    mode := .running
    role := cfg.role
    tickModel := cfg.tickModel
    baseT := cfg.baseT
    baseC := cfg.baseC }

/-- `S.mode <- FAILED` (R21, R231). -/
def State.fail (s : State) : State := { s with mode := .failed }

/-- `INIT(wdata)` (R231): once, from `UNCONFIGURED`; the ranges checked before the filter is asked for. -/
def execInit (cfg : RoleConfig) (s : State) : Result :=
  if s.mode ≠ .unconfigured then .next (s.refuse .alreadyInit)
  else if ¬ cfgValid cfg.baseT cfg.baseC then .next (s.fail.refuse .cfgInvalid)
  else if s.filterAnswer then .next ((s.filterInstall.latch cfg).accept 0)
  else .next (s.filterInstall.fail.refuse .hwFail)

/-- `TBL_READ(arr, idx, fld)` (R240): any mode, either array, no side effect. -/
def execTblRead (arr : Arr) (idx fld : BitVec 4) (s : State) : Result :=
  match wordRef arr idx fld with
  | none => .next (s.refuse .badIndex)
  | some p => .next (s.accept (s.readWord p))

/-- `TBL_WRITE(arr, idx, fld, wdata)` (R241): one word of the local array. -/
def execTblWrite (arr : Arr) (idx fld : BitVec 4) (wdata : Word) (s : State) : Result :=
  if s.mode ≠ .running then .next (s.refuse .notRunning)
  else if arr ≠ localArr s.role then .next (s.refuse .wrongRole)
  else
    match wordRef arr idx fld with
    | none => .next (s.refuse .badIndex)
    | some p => .next ((s.writeWord wdata p).accept 0)

/-- `S.mode` as its 2-bit code (R21). -/
def Mode.code : Mode → Nat
  | .unconfigured => 0
  | .running => 1
  | .failed => 2

/-- `S.role` as its bit (R20). -/
def roleBit : Role → Nat
  | .hub => 0
  | .sat => 1

/-- `S.tick_model` as its bit (R20). -/
def tickModelBit : TickModel → Nat
  | .counting => 0
  | .pending => 1

/-- The control and status registers by number (R37, R246); `none` for a reserved number. A counter is read through
`zext_32`, its low 32 bits if it is wider (R10). -/
def State.csr (s : State) (n : Nat) : Option Word :=
  match n with
  | 0 => some (BitVec.ofNat 32 s.mode.code)
  | 1 => some (BitVec.ofNat 32
      (roleBit s.role + 2 * tickModelBit s.tickModel + 4 * s.baseT.toNat + 8192 * s.baseC.toNat))
  | 2 => some (BitVec.ofNat 32 s.cntTotal)
  | 3 => some (BitVec.ofNat 32 s.cntPdo)
  | 4 => some (BitVec.ofNat 32 s.cntOther)
  | _ => none

/-- `RD_CSR(imm)` (R246). -/
def execRdCsr (imm : BitVec 11) (s : State) : Result :=
  match s.csr imm.toNat with
  | none => .next (s.refuse .badIndex)
  | some v => .next (s.accept v)

/-- A reserved operation code, in every mode (R248). -/
def State.illegalOp (s : State) : State := s.refuse .illegalOp

/-- Operation code 0xA (R248). -/
def execReservedA (s : State) : Result := .next s.illegalOp

/-- Operation code 0xB (R248). -/
def execReservedB (s : State) : Result := .next s.illegalOp

/-- Operation code 0xC (R248). -/
def execReservedC (s : State) : Result := .next s.illegalOp

/-- Operation code 0xD (R248). -/
def execReservedD (s : State) : Result := .next s.illegalOp

/-- Operation code 0xE (R248). -/
def execReservedE (s : State) : Result := .next s.illegalOp

/-- Operation code 0xF (R248). -/
def execReservedF (s : State) : Result := .next s.illegalOp

/-- `RESET` (R300). -/
def execReset (s : State) : Result := .next s.resetBlock

end Sys2Proof.Machine
end

