-- ==== Sys2Proof/Machine/Flags.lean ====
section
/-! DEFINITION. The two status flags and the counters (spec/10_state.md R30, R32 to R36): what sets, clears and
increments each. -/

namespace Sys2Proof.Machine

/-- Add 1 modulo `2 ^ w` (R32 to R35, R314). -/
def wrapInc (w v : Nat) : Nat := (v + 1) % 2 ^ w

/-- One tick as `S.tick_model` has it (R192): a count, or the single pending flag in bit 0 (R30 (b)). -/
def State.countTick (s : State) : State :=
  match s.tickModel with
  | .counting => { s with tick := wrapInc s.params.tickW s.tick }
  | .pending => { s with tick := 1 }

/-- The clear half of `CONSUME_TICKS` (R194). -/
def State.clearTick (s : State) : State := { s with tick := 0 }

/-- Step 1 of the receive path: `S.cnt_total` gains 1 (R168). -/
def State.countTotal (s : State) : State := { s with cntTotal := wrapInc s.params.cntW s.cntTotal }

/-- Step 3: `S.cnt_pdo` gains 1 (R34, R170). -/
def State.countPdo (s : State) : State := { s with cntPdo := wrapInc s.params.cntW s.cntPdo }

/-- Step 4: `S.cnt_other` gains 1 (R35, R171). -/
def State.countOther (s : State) : State := { s with cntOther := wrapInc s.params.cntW s.cntOther }

/-- The clear half of `GET_DIAG`: `S.diag.pending` alone (R30 (a), R175). -/
def State.clearPending (s : State) : State := { s with diag := { s.diag with pending := false } }

end Sys2Proof.Machine
end

