-- ==== Sys2Proof/Machine/ReceiveDrain.lean ====
section
/-! DEFINITION. The Receive Drain and the Diagnostic Snapshot (spec/42_receive_drain.md R165 to R177): the events
`RX_ACT`, `RX_FRAME`, `RX_ERR`, the received frames of format RXD (spec/30_encoding.md R108), and `GET_DIAG`. -/

namespace Sys2Proof.Machine
open Sys2Proof.Config

/-- Which path a frame takes (R167 step 2, R169): the slot and the record of a recognized frame, `none` for an
unrecognized one. The class is taken under the configured bases, whatever they are (R151, R108). -/
def recognize (s : State) (f : RxFrame) : Option (Fin 15 × Record) :=
  match classify s.baseT s.baseC f.id with
  | .unrec => none
  | .tel k =>
    if inbound s.role = .telCat then
      (decodeFrame s.params.endian .telCat f.data).map fun r => (resolve k r.index, r)
    else none
  | .cmd k =>
    if inbound s.role = .cmdCat then
      (decodeFrame s.params.endian .cmdCat f.data).map fun r => (resolve k r.index, r)
    else none

/-- The snapshot of a frame: the raw length code, the flags, the payload bytes and then zeros (R171). -/
def snapshot (f : RxFrame) : Diag :=
  ⟨true, f.id, f.dlc, f.brs, f.fdf, Vector.ofFn fun k => f.data.getD k 0⟩

/-- Steps 1 to 4 of the receive path, one transition (R167). -/
def State.receive (s : State) (f : RxFrame) : State :=
  match recognize s f with
  | some (i, r) => (s.countTotal.writeRecord i r).countPdo
  | none => { s.countTotal with diag := snapshot f }.countOther

/-- `RX_FRAME(f)` with its gate: nothing happens outside `RUNNING` (R165, R167). -/
def State.rxFrame (s : State) (f : RxFrame) : State :=
  if s.mode = .running then s.receive f else s

/-- `RX_ERR`: no state change; the activation ends (R173). -/
def State.rxErr (s : State) : State := s

/-- The loop of `RX_ACT` over the answers `RxPop()` will give (R166): it ends on `Empty` or `Err`, and on the end of the
listed answers, which reads as `Empty` (log entry 2). -/
def drain : List RxAnswer → State → State
  | [], s => { s with env := { s.env with rxAnswers := [] } }
  | .empty :: rest, s => { s with env := { s.env with rxAnswers := rest } }
  | .err :: rest, s => { s with env := { s.env with rxAnswers := rest } }.rxErr
  | .frame f :: rest, s => drain rest (s.rxFrame f)

/-- `RX_ACT` (R166); outside `RUNNING` the request is ignored and no `RxPop()` is made (R165). -/
def execRxAct (s : State) : Host.Outcome State Fault Refusal :=
  if s.mode = .running then .next (drain s.env.rxAnswers s) else .next s

/-- `RX_FRAME(f)` (R167). -/
def execRxFrame (f : RxFrame) (s : State) : Host.Outcome State Fault Refusal := .next (s.rxFrame f)

/-- `RX_ERR` (R173). -/
def execRxErr (s : State) : Host.Outcome State Fault Refusal := .next s.rxErr

/-- A frame of row `RXD.TEL`: it is received as every frame is, its class taken under the configured bases
(R108, R167). -/
def execRxdTel (f : RxFrame) (s : State) : Host.Outcome State Fault Refusal := .next (s.rxFrame f)

/-- A frame of row `RXD.CMD` (R108, R167). -/
def execRxdCmd (f : RxFrame) (s : State) : Host.Outcome State Fault Refusal := .next (s.rxFrame f)

/-- A frame of row `RXD.UNREC` (R108, R167). -/
def execRxdUnrec (f : RxFrame) (s : State) : Host.Outcome State Fault Refusal := .next (s.rxFrame f)

/-- What `GET_DIAG` returns of the snapshot: the first `LenOf(fdf, dlc)` bytes (R103, R175). -/
def Diag.frame (d : Diag) : RxFrame :=
  ⟨d.id, d.dlc, d.fdf, d.brs, d.data.toList.take (lenOf d.fdf d.dlc)⟩

/-- `GET_DIAG` (R175): read and clear in one transition, in every mode. -/
def execGetDiag (s : State) : Host.Outcome State Fault Refusal :=
  if s.diag.pending then .next (s.clearPending.respond ⟨true, .none, 0, some s.diag.frame⟩)
  else .next (s.respond ⟨true, .none, 0, none⟩)

end Sys2Proof.Machine
end

