-- ==== Sys2Proof/Machine/TickDistributor.lean ====
section
/-! DEFINITION. The Tick Distributor (spec/43_tick_distributor.md R190 to R198): the event `TICK` and the destructive
read `CONSUME_TICKS`. -/

namespace Sys2Proof.Machine

/-- `TICK` (R192): dropped outside `RUNNING`. -/
def execTick (s : State) : Host.Outcome State Fault Refusal :=
  if s.mode = .running then .next s.countTick else .next s

/-- `CONSUME_TICKS` (R194): read and clear in one transition, in every mode. -/
def execConsumeTicks (s : State) : Host.Outcome State Fault Refusal :=
  .next (s.clearTick.accept (BitVec.ofNat 32 s.tick))

end Sys2Proof.Machine
end

