-- ==== Sys2Proof/Machine/TransmitAssembler.lean ====
section
/-! DEFINITION. The Transmit Assembler (spec/44_transmit_assembler.md R205 to R216): the pure frame-building functions,
the three send operations, and the offering of a frame of format TXD (spec/30_encoding.md R92). -/

namespace Sys2Proof.Machine
open Sys2Proof.Config

/-! ### Building a frame (R205 to R209, R215) -/

/-- A frame as the block always produces it: `fdf = 1`, `brs = 1`, `rtr = 0`, `ide = 0` (R92, R215). -/
def txFrame (id : Ident) (dlc : BitVec 4) (data : List Byte) : TxFrame := ⟨id, dlc, true, true, false, false, data⟩

/-- `BuildCmd(i, r)` (R206): the index forced to the target slot (R207). The sum is masked to 11 bits (R106), which
`BitVec.ofNat 11` does. -/
def buildCmd (p : Params) (baseC : Ident) (i : Fin 15) (r : CmdRecord) : TxFrame :=
  txFrame (BitVec.ofNat 11 (baseC.toNat + i)) 12 (cmdPayload p.endian (r.withIndex (BitVec.ofNat 32 i)))

/-- `BuildTel(i, r)` (R208): the index forced only under `TEL_FORCE_INDEX`. -/
def buildTel (p : Params) (baseT : Ident) (i : Fin 15) (r : TelRecord) : TxFrame :=
  txFrame (BitVec.ofNat 11 (baseT.toNat + i)) 14
    (telPayload p.endian (if p.telForceIndex then r.withIndex (BitVec.ofNat 32 i) else r))

/-- `BuildKa(id)` (R209): reads no state at all. -/
def buildKa (id : Ident) : TxFrame := txFrame id 13 kaPayload

/-- The argument of `BuildFrame` (R205). -/
inductive FrameKind where
  | cmd (i : Fin 15) (r : CmdRecord)
  | tel (i : Fin 15) (r : TelRecord)
  | ka (id : Ident)
deriving DecidableEq, Repr

/-- `BuildFrame` (R205): a function of its argument, the bases and the parameters. -/
def buildFrame (p : Params) (baseT baseC : Ident) : FrameKind → TxFrame
  | .cmd i r => buildCmd p baseC i r
  | .tel i r => buildTel p baseT i r
  | .ka id => buildKa id

/-! ### The send operations (R210 to R216) -/

/-- The common tail of the three send operations (R211): one `TxPush`, no retry. -/
def State.send (s : State) (k : FrameKind) : State :=
  let s' := s.txPush (buildFrame s.params s.baseT s.baseC k)
  if s.txAnswer then s'.accept 0 else s'.refuse .txFail

/-- `SEND_CMD(idx)` (R210, R212): the record comes from the hub's local array. -/
def execSendCmd (idx : BitVec 4) (s : State) : Host.Outcome State Fault Refusal :=
  if s.mode ≠ .running then .next (s.refuse .notRunning)
  else if s.role ≠ .hub then .next (s.refuse .wrongRole)
  else
    match slotOf idx with
    | none => .next (s.refuse .badIndex)
    | some i => .next (s.send (.cmd i s.cmd[i]))

/-- `SEND_TEL(idx)` (R210, R213): the record comes from the satellite's local array. -/
def execSendTel (idx : BitVec 4) (s : State) : Host.Outcome State Fault Refusal :=
  if s.mode ≠ .running then .next (s.refuse .notRunning)
  else if s.role ≠ .sat then .next (s.refuse .wrongRole)
  else
    match slotOf idx with
    | none => .next (s.refuse .badIndex)
    | some i => .next (s.send (.tel i s.tel[i]))

/-- `SEND_KEEPALIVE(imm)` (R210, R214): either role, any identifier. -/
def execSendKeepalive (imm : Ident) (s : State) : Host.Outcome State Fault Refusal :=
  if s.mode ≠ .running then .next (s.refuse .notRunning)
  else .next (s.send (.ka imm))

/-! ### A frame of format TXD (R92, R211)

A row of format TXD is no request: it is the frame a send operation offers, the one `TxPush(g)` of R211, without the
host's response. DESIGN CHOICE (log entry 6): taken as an event of its own it offers the frame where the block could have
built it itself, and does nothing elsewhere: the checks that R210 makes before any `TxPush` of that kind hold, and the
frame is `BuildFrame` of some slot and record. So its identifier is the configured base plus a motor index (R92, R206,
R208) and its index word is that motor index where the spec forces it (R207; R208 under `TEL_FORCE_INDEX`); a frame with
another index word is neither mended nor offered. -/

/-- `g` is `BuildCmd(i, r)` for a slot `i` (R206). A record that gives `g`, if there is one, is the record read from its
payload, whose index word must then be `i` already (R207; log entry 6). -/
def State.buildsCmd (s : State) (g : TxFrame) : Bool :=
  decide (∃ i : Fin 15, g = buildCmd s.params s.baseC i (decCmd s.params.endian g.data))

/-- `g` is `BuildTel(i, r)` for a slot `i` (R208), `r` read from its payload; the index word must be `i` under
`TEL_FORCE_INDEX` and may be any word otherwise (log entry 6). -/
def State.buildsTel (s : State) (g : TxFrame) : Bool :=
  decide (∃ i : Fin 15, g = buildTel s.params s.baseT i (decTel s.params.endian g.data))

/-- Offer a frame where the state lets it be sent: `RUNNING` (R210 check 1), and what its kind asks besides. -/
def State.offer (s : State) (allowed : Bool) (g : TxFrame) : State :=
  if s.mode = .running ∧ allowed = true then s.txPush g else s

/-- `TXD.CMD`: a hub's command frame (R206, R210 check 2). The payload leaves as given, and only where its index word is
the identifier's offset from the command base (R207). DESIGN CHOICE (log entry 6). -/
def execTxdCmd (id : Ident) (data : List Byte) (s : State) : Host.Outcome State Fault Refusal :=
  .next (s.offer (s.role = .hub ∧ s.buildsCmd (txFrame id 12 data)) (txFrame id 12 data))

/-- `TXD.KA`: a keepalive frame, in either role, at any identifier (R209). DESIGN CHOICE (log entry 6). -/
def execTxdKa (id : Ident) (s : State) : Host.Outcome State Fault Refusal :=
  .next (s.offer true (buildKa id))

/-- `TXD.TEL`: a satellite's telemetry frame (R208, R210 check 2). The payload leaves as given; under `TEL_FORCE_INDEX`
only where its index word is the identifier's offset from the telemetry base. DESIGN CHOICE (log entry 6). -/
def execTxdTel (id : Ident) (data : List Byte) (s : State) : Host.Outcome State Fault Refusal :=
  .next (s.offer (s.role = .sat ∧ s.buildsTel (txFrame id 14 data)) (txFrame id 14 data))

end Sys2Proof.Machine
end

