-- ==== Sys2Proof/Machine/Dispatch.lean ====
section
/-! DEFINITION. One arm per operation and event, each a direct call of its meaning. -/

namespace Sys2Proof.Machine

def exec (i : Instr) (s : State) : Host.Outcome State Fault Refusal :=
  match i with
  -- format REQ
  | .nop => Sys2Proof.Machine.execNop s
  | .init cfg => Sys2Proof.Machine.execInit cfg s
  | .consumeTicks => Sys2Proof.Machine.execConsumeTicks s
  | .getDiag => Sys2Proof.Machine.execGetDiag s
  | .sendCmd idx => Sys2Proof.Machine.execSendCmd idx s
  | .sendTel idx => Sys2Proof.Machine.execSendTel idx s
  | .sendKeepalive imm => Sys2Proof.Machine.execSendKeepalive imm s
  | .tblRead arr idx fld => Sys2Proof.Machine.execTblRead arr idx fld s
  | .tblWrite arr idx fld wdata => Sys2Proof.Machine.execTblWrite arr idx fld wdata s
  | .rdCsr imm => Sys2Proof.Machine.execRdCsr imm s
  | .reservedA => Sys2Proof.Machine.execReservedA s
  | .reservedB => Sys2Proof.Machine.execReservedB s
  | .reservedC => Sys2Proof.Machine.execReservedC s
  | .reservedD => Sys2Proof.Machine.execReservedD s
  | .reservedE => Sys2Proof.Machine.execReservedE s
  | .reservedF => Sys2Proof.Machine.execReservedF s
  -- format EVENT
  | .tick => Sys2Proof.Machine.execTick s
  | .rxAct => Sys2Proof.Machine.execRxAct s
  | .rxFrame f => Sys2Proof.Machine.execRxFrame f s
  | .rxErr => Sys2Proof.Machine.execRxErr s
  | .reset => Sys2Proof.Machine.execReset s
  -- format RXD
  | .rxdTel f => Sys2Proof.Machine.execRxdTel f s
  | .rxdCmd f => Sys2Proof.Machine.execRxdCmd f s
  | .rxdUnrec f => Sys2Proof.Machine.execRxdUnrec f s
  -- format TXD
  | .txdCmd id data => Sys2Proof.Machine.execTxdCmd id data s
  | .txdKa id => Sys2Proof.Machine.execTxdKa id s
  | .txdTel id data => Sys2Proof.Machine.execTxdTel id data s

end Sys2Proof.Machine
end

