-- ==== Sys2Proof/Machine/Step.lean ====
section
/-! DEFINITION. One step: the next event is taken, decoded and performed, as one atomic transition
(spec/20_memory.md R70). -/

namespace Sys2Proof.Machine

/-- One step. While no event is about to arrive the block stays as it is: it is reactive, with no halt and no final
state (R331). -/
def step (s : State) : Host.Outcome State Fault Refusal :=
  match s.nextTransfer with
  | none => .next s
  | some (x, s') =>
    match decode x with
    | .ok i => exec i s'
    | .error why => .refused (.badTransfer why)

/-- The state in which the opcode-table word `w` is the next event (log entry 2: events come from outside). -/
def State.withFetchWord (s : State) (nbits w : Nat) : State := s.present (tableTransfer nbits w)

end Sys2Proof.Machine
end

