-- ==== Sys2Proof/Machine/Pseudo.lean ====
section
/-! DEFINITION. The pseudo-operations: the source's API calls as sequences of the block's operations
(spec/30_encoding.md R114). They are no instructions of their own; the software around the block issues them. -/

namespace Sys2Proof.Machine

/-- Perform a sequence of operations and events, one after another. -/
def execAll : List Instr → State → Host.Outcome State Fault Refusal
  | [], s => .next s
  | i :: rest, s =>
    match exec i s with
    | .next s' => execAll rest s'
    | .fault r => .fault r
    | .refused r => .refused r

/-- `sendCommand(i, rec)` (R114). `none`: the index does not fit the 4-bit field, the wrapper itself returns failure and
issues no operation. -/
def sendCommandCall (i : Int) (r : CmdRecord) : Option (List Instr) :=
  if 0 ≤ i ∧ i < 16 then
    let idx := BitVec.ofInt 4 i
    some [.tblWrite .cmd idx 0 r.w[0], .tblWrite .cmd idx 1 r.w[1], .tblWrite .cmd idx 2 r.w[2],
      .tblWrite .cmd idx 3 r.w[3], .tblWrite .cmd idx 4 r.w[4], .tblWrite .cmd idx 5 r.w[5], .sendCmd idx]
  else none

/-- `sendTelemetry(i, rec)` (R114). -/
def sendTelemetryCall (i : Int) (r : TelRecord) : Option (List Instr) :=
  if 0 ≤ i ∧ i < 16 then
    let idx := BitVec.ofInt 4 i
    some [.tblWrite .tel idx 0 r.w[0], .tblWrite .tel idx 1 r.w[1], .tblWrite .tel idx 2 r.w[2],
      .tblWrite .tel idx 3 r.w[3], .tblWrite .tel idx 4 r.w[4], .tblWrite .tel idx 5 r.w[5],
      .tblWrite .tel idx 6 r.w[6], .tblWrite .tel idx 7 r.w[7], .tblWrite .tel idx 8 r.w[8],
      .tblWrite .tel idx 9 r.w[9], .sendTel idx]
  else none

/-- `sendKeepalive(id)`: the identifier masked to 11 bits (R114). -/
def sendKeepaliveCall (id : Nat) : List Instr := [.sendKeepalive (BitVec.ofNat 11 id)]

/-- The start-up call with a role configuration: one `INIT` (R114). -/
def startCall (cfg : RoleConfig) : List Instr := [.init cfg]

/-- `consumeTicks()` (R114). -/
def consumeTicksCall : List Instr := [.consumeTicks]

/-- `getDiagnosticFrame()` (R114). -/
def getDiagnosticFrameCall : List Instr := [.getDiag]

/-- `onFrameReceived`: the event `RX_ACT` (R114). -/
def onFrameReceivedCall : List Instr := [.rxAct]

/-- "read a whole record": one `TBL_READ` a word, not atomic (R72, R114). -/
def readRecordCall (arr : Arr) (idx : BitVec 4) : List Instr :=
  match arr with
  | .tel => [.tblRead .tel idx 0, .tblRead .tel idx 1, .tblRead .tel idx 2, .tblRead .tel idx 3, .tblRead .tel idx 4,
      .tblRead .tel idx 5, .tblRead .tel idx 6, .tblRead .tel idx 7, .tblRead .tel idx 8, .tblRead .tel idx 9]
  | .cmd => [.tblRead .cmd idx 0, .tblRead .cmd idx 1, .tblRead .cmd idx 2, .tblRead .cmd idx 3, .tblRead .cmd idx 4,
      .tblRead .cmd idx 5]

end Sys2Proof.Machine
end

