-- ==== Sys2Proof/Safety.lean ====
section
/-! DEFINITION. What the spec says holds of every state the block can be in: the invariants of spec/10_state.md R21,
R22, R32 and R36, and the counters' widths. A run is safe while they hold; the block never stops (R260, R331). -/

namespace Sys2Proof.Machine

/-- Every element of `S` but the mode is at its reset value (R50). -/
structure State.Untouched (s : State) : Prop where
  role : s.role = .hub
  tickModel : s.tickModel = .counting
  baseT : s.baseT = 0
  baseC : s.baseC = 0
  tel : s.tel = Vector.replicate 15 TelRecord.zero
  cmd : s.cmd = Vector.replicate 15 CmdRecord.zero
  diag : s.diag = Diag.zero
  tick : s.tick = 0
  cntTotal : s.cntTotal = 0
  cntPdo : s.cntPdo = 0
  cntOther : s.cntOther = 0

/-- The invariant of the block. -/
structure State.Inv (s : State) : Prop where
  /-- the tick element has a bit for the pending flag (R32) -/
  tickW_pos : 1 ≤ s.params.tickW
  /-- in `RUNNING` both ranges fit and are disjoint (R22) -/
  config : s.mode = .running → cfgValid s.baseT s.baseC = true
  /-- outside `RUNNING` everything but the mode reads as after reset (R22, R249) -/
  idle : s.mode ≠ .running → s.Untouched
  /-- in `PENDING` only bit 0 of `S.tick` is used (R32) -/
  flag : s.tickModel = .pending → s.tick ≤ 1
  /-- `S.tick` has `TICK_W` bits (R32) -/
  tick_lt : s.tick < 2 ^ s.params.tickW
  /-- the counters have `CNT_W` bits (R33 to R35) -/
  total_lt : s.cntTotal < 2 ^ s.params.cntW
  pdo_lt : s.cntPdo < 2 ^ s.params.cntW
  other_lt : s.cntOther < 2 ^ s.params.cntW
  /-- the counter invariant (R36) -/
  total_eq : s.cntTotal = (s.cntPdo + s.cntOther) % 2 ^ s.params.cntW

/-- Which context an operation or event belongs to (R28, R275). -/
inductive Context where
  /-- the interrupt context: both handlers -/
  | interrupt
  /-- the main-loop context: every host operation -/
  | mainLoop
  /-- the `rst` input -/
  | reset
  /-- the block's own transfer at the transmit port, a frame of format TXD -/
  | transmit
deriving DecidableEq, Repr

/-- The context of each operation and event (R275). -/
def context : Instr → Context
  | .nop => .mainLoop
  | .init _ => .mainLoop
  | .consumeTicks => .mainLoop
  | .getDiag => .mainLoop
  | .sendCmd _ => .mainLoop
  | .sendTel _ => .mainLoop
  | .sendKeepalive _ => .mainLoop
  | .tblRead _ _ _ => .mainLoop
  | .tblWrite _ _ _ _ => .mainLoop
  | .rdCsr _ => .mainLoop
  | .reservedA => .mainLoop
  | .reservedB => .mainLoop
  | .reservedC => .mainLoop
  | .reservedD => .mainLoop
  | .reservedE => .mainLoop
  | .reservedF => .mainLoop
  | .tick => .interrupt
  | .rxAct => .interrupt
  | .rxFrame _ => .interrupt
  | .rxErr => .interrupt
  | .reset => .reset
  | .rxdTel _ => .interrupt
  | .rxdCmd _ => .interrupt
  | .rxdUnrec _ => .interrupt
  | .txdCmd _ _ => .transmit
  | .txdKa _ => .transmit
  | .txdTel _ _ => .transmit

/-- The four events that receive the frame `f`: `RX_FRAME` and the three rows of format RXD. -/
def receives (f : RxFrame) : List Instr := [.rxFrame f, .rxdTel f, .rxdCmd f, .rxdUnrec f]

/-- `rdata` of the latest response, as a number; 0 where there is none. -/
def State.lastRdata (s : State) : Nat := (s.env.responses.getLast?.map fun r => r.rdata.toNat).getD 0

/-- The sum of what the `CONSUME_TICKS` of a sequence return (R195). -/
def consumedTicks : List Instr → State → Nat
  | [], _ => 0
  | i :: rest, s =>
    match exec i s with
    | .next t => (if i = .consumeTicks then t.lastRdata else 0) + consumedTicks rest t
    | .fault _ => 0
    | .refused _ => 0

/-- The premise of R195: fewer than `m` ticks fall between consecutive consumptions, `c` ticks standing unconsumed at
the start. -/
def gapsBelow (m : Nat) : Nat → List Instr → Prop
  | c, [] => c < m
  | c, i :: rest =>
    if i = .tick then c + 1 < m ∧ gapsBelow m (c + 1) rest
    else if i = .consumeTicks then c < m ∧ gapsBelow m 0 rest
    else gapsBelow m c rest

end Sys2Proof.Machine
end

