-- ==== Sys2Proof/Certificates/Slice0/Obligations.lean ====
section
/-! DEFINITION. The statements for the provers, each with the rule of spec/ it formalises. Where a statement rests on a
passage the spec marks as its own decision or inference, its docstring names the decision, and its basis is 'derived'.

A meaning's effect is written as the whole next state, `{ s with … }`: every field not named is unchanged, which is the
frame. `S` is every field but `params` and `env`. -/

open Sys2Proof Sys2Proof.Machine Sys2Proof.Config

/-! ### Decoding and encoding -/

/-- Words of spec/95_test_vectors.md 2.1, 2.3 decode to what R100, R91 and R92 say. -/
def Obligations.DecodeReadsSampleWords : Prop :=
  decode (.host 0x43800000 0) = .ok (.sendCmd 7) ∧
  decode (.host 0x4387F800 0) = .ok (.sendCmd 7) ∧
  decode (.host 0x8B900000 0x3FC00000) = .ok (.tblWrite .cmd 7 2 0x3FC00000) ∧
  decode (.host 0x77480000 0) = .ok (.tblRead .tel 14 9) ∧
  decode (.host 0x60000123 0) = .ok (.sendKeepalive 0x123) ∧
  decode (.host 0x10000000 0xFF600803) = .ok (.init ⟨.sat, .pending, 0x200, 0x300⟩) ∧
  decode (.rxFrame 0x000012FF [0xAA, 0xBB]) = .ok (.rxFrame ⟨0x2FF, 2, false, false, [0xAA, 0xBB]⟩) ∧
  decode (.rxd 0x0001DB03 (zeros 20)) = .ok (.rxdCmd ⟨0x303, 11, true, true, zeros 20⟩) ∧
  decode (.txd 0x0001E923 (zeros 32)) = .ok (.txdKa 0x123) ∧
  decode .tickIrq = .ok .tick

/-- Decode and encode agree on every well-formed operation and event. -/
def Obligations.DecodeEncodeRoundTrip : Prop :=
  ∀ i : Instr, i.wellFormed = true → decode (encode i) = .ok i

/-- R100: "A field that an operation does not use is ignored by it". Two requests with the same operation code, the same
used fields and, where `wdata` is used, the same used bits of it, are the same operation (R101 for `wdata`). -/
def Obligations.UnusedRequestFieldsAreIgnored : Prop :=
  ∀ req req' wdata wdata' : Word,
    req.extractLsb' 28 4 = req'.extractLsb' 28 4 →
    (req.extractLsb' 28 4 ∈ [(4 : BitVec 4), 5, 7, 8] → req.extractLsb' 23 4 = req'.extractLsb' 23 4) →
    (req.extractLsb' 28 4 ∈ [(7 : BitVec 4), 8] →
      req.getLsbD 27 = req'.getLsbD 27 ∧ req.extractLsb' 19 4 = req'.extractLsb' 19 4) →
    (req.extractLsb' 28 4 ∈ [(6 : BitVec 4), 9] → req.extractLsb' 0 11 = req'.extractLsb' 0 11) →
    (req.extractLsb' 28 4 = 1 → wdata.extractLsb' 0 24 = wdata'.extractLsb' 0 24) →
    (req.extractLsb' 28 4 = 8 → wdata = wdata') →
    decode (.host req wdata) = decode (.host req' wdata')

/-- Whatever the decoder accepts, from any port, is well formed: a received or transmitted frame has as many bytes as its
length code says (R91, R92) and lies in its row's class (R108). -/
def Obligations.DecodedInstructionsAreWellFormed : Prop :=
  ∀ (x : Transfer) (i : Instr), decode x = .ok i → i.wellFormed = true

/-- The table's rows `RXD.TEL` and `RXD.CMD`, given by match and mask, are the two ranges of 15 identifiers under the
default bases. The spec marks R108 as derived. -/
def Obligations.DefaultRowsAreTheDefaultRanges : Prop :=
  ∀ id : Ident,
    (isDefaultTel id = true ↔ ∃ k, classify defaultBaseT defaultBaseC id = .tel k) ∧
    (isDefaultCmd id = true ↔ ∃ k, classify defaultBaseT defaultBaseC id = .cmd k)

/-- A step performs the decoded event, on the state with that event taken from the inputs; and with no event to come
the block stays as it is. The input stream is the model's own form of R70 and R331 (log entry 2). -/
def Obligations.StepRunsTheDecodedInstruction : Prop :=
  (∀ (s : State) (x : Transfer) (rest : List Transfer) (i : Instr),
    s.env.inbox = x :: rest → decode x = .ok i → i.wellFormed = true →
    step s = exec i { s with env := { s.env with inbox := rest } }) ∧
  (∀ s : State, s.env.inbox = [] → step s = .next s)

/-! ### The host port -/

/-- R230: `NOP` responds and does nothing else, in every mode (decision D22). -/
def Obligations.NopOnlyResponds : Prop :=
  ∀ s : State, exec .nop s =
    .next { s with env := { s.env with responses := s.env.responses ++ [⟨true, .none, 0, none⟩] } }

/-- R248: every reserved operation code is refused with `ILLEGAL_OP`, in every mode, and changes nothing (decision
D22). -/
def Obligations.ReservedCodesAreRefused : Prop :=
  ∀ s : State, ∀ i ∈ [Instr.reservedA, .reservedB, .reservedC, .reservedD, .reservedE, .reservedF], exec i s =
    .next { s with env := { s.env with responses := s.env.responses ++ [⟨false, .illegalOp, 0, none⟩] } }

/-- R231, success: from `UNCONFIGURED`, with a valid configuration and the filter installed, the configuration is latched
and the mode is `RUNNING`; nothing else of `S` changes (decision D25 for the modes). -/
def Obligations.InitConfiguresTheBlock : Prop :=
  ∀ (s : State) (cfg : RoleConfig),
    s.mode = .unconfigured → cfgValid cfg.baseT cfg.baseC = true → s.filterAnswer = true →
    exec (.init cfg) s = .next { s with
      mode := .running, role := cfg.role, tickModel := cfg.tickModel, baseT := cfg.baseT, baseC := cfg.baseC
      env := { s.env with
        fltAnswers := s.env.fltAnswers.tail, fltRequests := s.env.fltRequests + 1
        responses := s.env.responses ++ [⟨true, .none, 0, none⟩] } }

/-- R231, R263, failures, in the order of the tests: `ALREADY_INIT`, `CFG_INVALID`, `HW_FAIL`; the last two enter
`FAILED`, and with an invalid configuration the filter is not asked for (decisions D23, D25). -/
def Obligations.InitFailsInTheOrderOfItsTests : Prop :=
  ∀ (s : State) (cfg : RoleConfig),
    (s.mode ≠ .unconfigured → exec (.init cfg) s =
      .next { s with env := { s.env with responses := s.env.responses ++ [⟨false, .alreadyInit, 0, none⟩] } }) ∧
    (s.mode = .unconfigured → cfgValid cfg.baseT cfg.baseC = false → exec (.init cfg) s =
      .next { s with
        mode := .failed
        env := { s.env with responses := s.env.responses ++ [⟨false, .cfgInvalid, 0, none⟩] } }) ∧
    (s.mode = .unconfigured → cfgValid cfg.baseT cfg.baseC = true → s.filterAnswer = false → exec (.init cfg) s =
      .next { s with
        mode := .failed
        env := { s.env with
          fltAnswers := s.env.fltAnswers.tail, fltRequests := s.env.fltRequests + 1
          responses := s.env.responses ++ [⟨false, .hwFail, 0, none⟩] } })

/-- R232: a configuration is valid exactly when no identifier above 0x7FF is in a range and no identifier is in both.
The two width clauses are decision D25. -/
def Obligations.CfgValidMeansFittingDisjointRanges : Prop :=
  ∀ bt bc : Ident, cfgValid bt bc = true ↔
    bt.toNat ≤ 0x7F1 ∧ bc.toNat ≤ 0x7F1 ∧
    ¬ ∃ n : Nat, (bt.toNat ≤ n ∧ n ≤ bt.toNat + 14) ∧ (bc.toNat ≤ n ∧ n ≤ bc.toNat + 14)

/-- R240: `TBL_READ` returns the word and changes nothing, in every mode and on both arrays (decision D28); an operand
out of range is refused with `BAD_INDEX` (R105). -/
def Obligations.TblReadReturnsTheWord : Prop :=
  ∀ (s : State) (idx fld : BitVec 4),
    (∀ (hi : idx.toNat < 15) (hk : fld.toNat < 10), exec (.tblRead .tel idx fld) s =
      .next { s with env := { s.env with responses := s.env.responses ++
        [⟨true, .none, (s.tel[idx.toNat]).w[fld.toNat], none⟩] } }) ∧
    (∀ (hi : idx.toNat < 15) (hk : fld.toNat < 6), exec (.tblRead .cmd idx fld) s =
      .next { s with env := { s.env with responses := s.env.responses ++
        [⟨true, .none, (s.cmd[idx.toNat]).w[fld.toNat], none⟩] } }) ∧
    (∀ arr : Arr, 15 ≤ idx.toNat ∨ (arr = .tel ∧ 10 ≤ fld.toNat) ∨ (arr = .cmd ∧ 6 ≤ fld.toNat) →
      exec (.tblRead arr idx fld) s =
        .next { s with env := { s.env with responses := s.env.responses ++ [⟨false, .badIndex, 0, none⟩] } })

/-- R241, success: one word of the local array is replaced, the telemetry array at a satellite and the command array at a
hub (R27); every other word of both arrays is as it was (decision D28). -/
def Obligations.TblWriteStoresOneLocalWord : Prop :=
  ∀ (s : State) (idx fld : BitVec 4) (v : Word), s.mode = .running →
    (∀ (hi : idx.toNat < 15) (hk : fld.toNat < 10), s.role = .sat → exec (.tblWrite .tel idx fld v) s =
      .next { s with
        tel := s.tel.set idx.toNat ⟨(s.tel[idx.toNat]).w.set fld.toNat v⟩
        env := { s.env with responses := s.env.responses ++ [⟨true, .none, 0, none⟩] } }) ∧
    (∀ (hi : idx.toNat < 15) (hk : fld.toNat < 6), s.role = .hub → exec (.tblWrite .cmd idx fld v) s =
      .next { s with
        cmd := s.cmd.set idx.toNat ⟨(s.cmd[idx.toNat]).w.set fld.toNat v⟩
        env := { s.env with responses := s.env.responses ++ [⟨true, .none, 0, none⟩] } })

/-- R241, R263, refusals, in the order of the tests: `NOT_RUNNING`, `WRONG_ROLE` for the owned array, `BAD_INDEX`; each
changes nothing (decisions D23, D27, D28). -/
def Obligations.TblWriteIsRefusedInOrder : Prop :=
  ∀ (s : State) (arr : Arr) (idx fld : BitVec 4) (v : Word),
    (s.mode ≠ .running → exec (.tblWrite arr idx fld v) s =
      .next { s with env := { s.env with responses := s.env.responses ++ [⟨false, .notRunning, 0, none⟩] } }) ∧
    (s.mode = .running → (arr = .tel ∧ s.role = .hub) ∨ (arr = .cmd ∧ s.role = .sat) →
      exec (.tblWrite arr idx fld v) s =
      .next { s with env := { s.env with responses := s.env.responses ++ [⟨false, .wrongRole, 0, none⟩] } }) ∧
    (s.mode = .running → (arr = .tel ∧ s.role = .sat) ∨ (arr = .cmd ∧ s.role = .hub) →
      15 ≤ idx.toNat ∨ (arr = .tel ∧ 10 ≤ fld.toNat) ∨ (arr = .cmd ∧ 6 ≤ fld.toNat) →
      exec (.tblWrite arr idx fld v) s =
      .next { s with env := { s.env with responses := s.env.responses ++ [⟨false, .badIndex, 0, none⟩] } })

/-- R61, R62, R64, R67: a `TBL_WRITE` that is carried out stores `bytes32(wdata)` at the address of its word, and every
byte of both spaces outside those four reads as before. The byte map is derived by the spec. -/
def Obligations.TblWriteChangesFourBytes : Prop :=
  ∀ (s t : State) (arr : Arr) (idx fld : BitVec 4) (v : Word) (p : WordRef),
    s.mode = .running → arr = localArr s.role → wordRef arr idx fld = some p →
    exec (.tblWrite arr idx fld v) s = .next t →
    memRead t p.space p.addr 4 = bytes32 s.params.endian v ∧
    ∀ (sp : Arr) (a : Nat), ¬ (sp = p.space ∧ p.addr ≤ a ∧ a < p.addr + 4) → memByte t sp a = memByte s sp a

/-- R37, R246: the five registers read as the table says, without a side effect; a reserved number is refused with
`BAD_INDEX` (decision D24). -/
def Obligations.RdCsrReturnsTheRegister : Prop :=
  ∀ (s : State) (imm : BitVec 11),
    (imm.toNat = 0 → exec (.rdCsr imm) s =
      .next { s with env := { s.env with responses := s.env.responses ++ [⟨true, .none,
        (match s.mode with | .unconfigured => 0 | .running => 1 | .failed => 2), none⟩] } }) ∧
    (imm.toNat = 1 → ∃ v : Word, exec (.rdCsr imm) s =
        .next { s with env := { s.env with responses := s.env.responses ++ [⟨true, .none, v, none⟩] } } ∧
      v.getLsbD 0 = decide (s.role = .sat) ∧ v.getLsbD 1 = decide (s.tickModel = .pending) ∧
      v.extractLsb' 2 11 = s.baseT ∧ v.extractLsb' 13 11 = s.baseC ∧ v.extractLsb' 24 8 = 0) ∧
    (imm.toNat = 2 → exec (.rdCsr imm) s =
      .next { s with env := { s.env with responses := s.env.responses ++
        [⟨true, .none, BitVec.ofNat 32 s.cntTotal, none⟩] } }) ∧
    (imm.toNat = 3 → exec (.rdCsr imm) s =
      .next { s with env := { s.env with responses := s.env.responses ++
        [⟨true, .none, BitVec.ofNat 32 s.cntPdo, none⟩] } }) ∧
    (imm.toNat = 4 → exec (.rdCsr imm) s =
      .next { s with env := { s.env with responses := s.env.responses ++
        [⟨true, .none, BitVec.ofNat 32 s.cntOther, none⟩] } }) ∧
    (5 ≤ imm.toNat → exec (.rdCsr imm) s =
      .next { s with env := { s.env with responses := s.env.responses ++ [⟨false, .badIndex, 0, none⟩] } })

/-- R249: outside `RUNNING`, in every state the invariant allows, `CONSUME_TICKS` returns 0, `GET_DIAG` returns
`valid = 0` and a valid `TBL_READ` returns 0 (decisions D12, D27; the zero values are derived by the spec). -/
def Obligations.ReadsOutsideRunningGiveResetValues : Prop :=
  ∀ s : State, s.Inv → s.mode ≠ .running →
    (∃ t, exec .consumeTicks s = .next t ∧ t.env.responses = s.env.responses ++ [⟨true, .none, 0, none⟩]) ∧
    (∃ t, exec .getDiag s = .next t ∧ t.env.responses = s.env.responses ++ [⟨true, .none, 0, none⟩]) ∧
    (∀ (arr : Arr) (idx fld : BitVec 4) (p : WordRef), wordRef arr idx fld = some p →
      ∃ t, exec (.tblRead arr idx fld) s = .next t ∧ t.env.responses = s.env.responses ++ [⟨true, .none, 0, none⟩])

/-! ### The Tick Distributor -/

/-- R192: in `RUNNING` a tick counts modulo `2^TICK_W`, or sets the flag; elsewhere it is dropped; it touches `S.tick`
alone (decisions D6, D12). -/
def Obligations.TickCountsOrSetsTheFlag : Prop :=
  ∀ s : State,
    (s.mode = .running → s.tickModel = .counting →
      exec .tick s = .next { s with tick := (s.tick + 1) % 2 ^ s.params.tickW }) ∧
    (s.mode = .running → s.tickModel = .pending → exec .tick s = .next { s with tick := 1 }) ∧
    (s.mode ≠ .running → exec .tick s = .next s)

/-- R194: `CONSUME_TICKS` returns `S.tick` and clears it, in one transition and in every mode (decision D13). -/
def Obligations.ConsumeTicksReturnsAndClears : Prop :=
  ∀ s : State, exec .consumeTicks s = .next { s with
    tick := 0
    env := { s.env with responses := s.env.responses ++ [⟨true, .none, BitVec.ofNat 32 s.tick, none⟩] } }

/-- R195: what the consumptions of a run return, plus what stands unconsumed, is what stood unconsumed before plus the
ticks of the run, over any sequence of operations and events without a reset. The spec derives it. -/
def Obligations.TicksAreConserved : Prop :=
  ∀ (es : List Instr) (s : State),
    s.mode = .running → s.tickModel = .counting → s.params.tickW ≤ 32 → Instr.reset ∉ es →
    gapsBelow (2 ^ s.params.tickW) s.tick es →
    ∃ t, execAll es s = .next t ∧ consumedTicks es s + t.tick = s.tick + es.count .tick

/-- R196: in the `PENDING` model, after a consumption, `CONSUME_TICKS` returns 1 exactly when a tick occurred. The spec
derives it. -/
def Obligations.PendingFlagSaysWhetherATickOccurred : Prop :=
  ∀ (es : List Instr) (s : State),
    s.mode = .running → s.tickModel = .pending → s.tick = 0 → Instr.reset ∉ es → Instr.consumeTicks ∉ es →
    ∃ t, execAll (es ++ [.consumeTicks]) s = .next t ∧ t.lastRdata = (if Instr.tick ∈ es then 1 else 0) ∧ t.tick = 0

/-- R197: a tick commutes with every operation and event but `CONSUME_TICKS` and `INIT`: either order gives the same
state and the same responses. The spec derives it. -/
def Obligations.TickCommutes : Prop :=
  ∀ (i : Instr) (s : State), i ≠ .consumeTicks → (∀ cfg, i ≠ .init cfg) →
    ∃ t, execAll [.tick, i] s = .next t ∧ execAll [i, .tick] s = .next t

/-! ### The Frame Codec and the Identifier Router -/

/-- R137: decode after encode gives the record back, for every record and both byte orders, through the padded form
too. The source states it of a record with its index; the spec derives it for every record, an index of 15 and up
included, and for the padded form, and the two byte orders are its decision D2. -/
def Obligations.CodecRoundTrip : Prop :=
  ∀ (e : Endian) (r : TelRecord) (c : CmdRecord),
    decTel e (encTel e r) = r ∧ decCmd e (encCmd e c) = c ∧
    decodeFrame e .telCat (telPayload e r) = some (.tel r) ∧ decodeFrame e .cmdCat (cmdPayload e c) = some (.cmd c)

/-- R138: encode after decode gives the bytes back: no bit of a record image is dropped. The spec derives it. -/
def Obligations.CodecConverse : Prop :=
  ∀ (e : Endian) (b : List Byte),
    (b.length = 40 → encTel e (decTel e b) = b) ∧ (b.length = 24 → encCmd e (decCmd e b) = b)

/-- R93, R136: a frame decodes exactly when its length code is one the spec lists: telemetry 14 and 15, commands 12 to
15, always with `fdf = 1`. The spec derives it, from the length table of decision D21 and the threshold of D8. -/
def Obligations.LengthCodesThatDecode : Prop :=
  ∀ (e : Endian) (f : RxFrame), f.wellFormed = true →
    ((decodeFrame e .telCat f.data).isSome = true ↔ f.fdf = true ∧ f.dlc ∈ [(14 : BitVec 4), 15]) ∧
    ((decodeFrame e .cmdCat f.data).isSome = true ↔ f.fdf = true ∧ f.dlc ∈ [(12 : BitVec 4), 13, 14, 15])

/-- R61, R62, R64: reading four bytes at a word's address gives the word's bytes, reading a record's bytes gives its wire
image; writing four bytes at a word's address replaces that word, writing a record's bytes replaces that record; and the
spaces are 600 and 360 bytes long. The byte map is derived by the spec. -/
def Obligations.MemoryViewFollowsTheByteMap : Prop :=
  ∀ s : State,
    (∀ p : WordRef, memRead s p.space p.addr 4 = bytes32 s.params.endian (s.readWord p)) ∧
    (∀ i : Fin 15, memRead s .tel (40 * i) 40 = encTel s.params.endian s.tel[i]) ∧
    (∀ i : Fin 15, memRead s .cmd (24 * i) 24 = encCmd s.params.endian s.cmd[i]) ∧
    (∀ (p : WordRef) (b : List Byte), b.length = 4 →
      memWrite s p.space p.addr b = some (s.writeWord (word32 s.params.endian b) p)) ∧
    (∀ (i : Fin 15) (b : List Byte), b.length = 40 →
      memWrite s .tel (40 * i) b = some { s with tel := s.tel.set i (decTel s.params.endian b) }) ∧
    (∀ (i : Fin 15) (b : List Byte), b.length = 24 →
      memWrite s .cmd (24 * i) b = some { s with cmd := s.cmd.set i (decCmd s.params.endian b) }) ∧
    (memImage s .tel).length = 600 ∧ (memImage s .cmd).length = 360

/-- R151: an identifier in the telemetry range is `TEL` of its offset, one in the command range is `CMD` of its offset,
and one outside both is `UNREC`, for every configuration that `INIT` admits. -/
def Obligations.ClassifyFollowsTheRanges : Prop :=
  ∀ bt bc id : Ident, cfgValid bt bc = true →
    (∀ k : Fin 15, classify bt bc id = .tel k ↔ id.toNat = bt.toNat + k) ∧
    (∀ k : Fin 15, classify bt bc id = .cmd k ↔ id.toNat = bc.toNat + k) ∧
    (classify bt bc id = .unrec ↔
      ¬ (bt.toNat ≤ id.toNat ∧ id.toNat ≤ bt.toNat + 14) ∧ ¬ (bc.toNat ≤ id.toNat ∧ id.toNat ≤ bc.toNat + 14))

/-- R153, R154: the embedded index wins whenever it is below 15, and the identifier's slot stands otherwise. -/
def Obligations.EmbeddedIndexWinsWheneverValid : Prop :=
  ∀ (k : Fin 15) (e : Word),
    (e.toNat < 15 → (resolve k e).val = e.toNat) ∧ (15 ≤ e.toNat → resolve k e = k)

/-- R155: routing without an embedded index gives the identifier's offset; a valid embedded index selects the slot within
the array the identifier chose; and nothing makes an unrecognized identifier a recognized one. -/
def Obligations.RouteSelectsTheSlotWithinTheArray : Prop :=
  ∀ (bt bc id : Ident) (e : Word) (k : Fin 15),
    (classify bt bc id = .tel k → route bt bc id none = .tel k ∧ route bt bc id (some e) = .tel (resolve k e)) ∧
    (classify bt bc id = .cmd k → route bt bc id none = .cmd k ∧ route bt bc id (some e) = .cmd (resolve k e)) ∧
    (classify bt bc id = .unrec → route bt bc id none = .unrec ∧ route bt bc id (some e) = .unrec)

/-- R305: where sender and receiver differ in byte order, an embedded index from 1 to 14 reads as an invalid one and
index 0 reads as 0. The spec derives it. -/
def Obligations.ByteOrderMismatchInvalidatesTheIndex : Prop :=
  ∀ e e' : Endian, e ≠ e' →
    (∀ w : Word, 1 ≤ w.toNat → w.toNat ≤ 14 → 15 ≤ (word32 e' (bytes32 e w)).toNat) ∧
    word32 e' (bytes32 e 0) = 0

/-! ### The Receive Drain and the Diagnostic Snapshot -/

/-- R167, R170, the recognized path at a hub: a frame in the telemetry range with at least 40 bytes replaces the whole
record of the slot its embedded index names, or its identifier where that index is invalid; `S.cnt_total` and
`S.cnt_pdo` gain 1; nothing else changes. It is so for `RX_FRAME` and for the rows of format RXD alike (log entry 5;
decisions D5, D8, D9). -/
def Obligations.HubStoresReceivedTelemetry : Prop :=
  ∀ (s : State) (f : RxFrame) (k : Fin 15), ∀ i ∈ receives f,
    s.mode = .running → s.role = .hub → f.id.toNat = s.baseT.toNat + k → 40 ≤ f.data.length →
    exec i s = .next { s with
      cntTotal := (s.cntTotal + 1) % 2 ^ s.params.cntW
      tel := s.tel.set (resolve k (decTel s.params.endian (f.data.take 40)).index)
        (decTel s.params.endian (f.data.take 40))
      cntPdo := (s.cntPdo + 1) % 2 ^ s.params.cntW }

/-- R167, R170, the recognized path at a satellite: a frame in the command range with at least 24 bytes replaces the
whole command record of its slot (log entry 5; decisions D5, D8, D9). -/
def Obligations.SatelliteStoresReceivedCommands : Prop :=
  ∀ (s : State) (f : RxFrame) (k : Fin 15), ∀ i ∈ receives f,
    s.mode = .running → s.role = .sat → cfgValid s.baseT s.baseC = true →
    f.id.toNat = s.baseC.toNat + k → 24 ≤ f.data.length →
    exec i s = .next { s with
      cntTotal := (s.cntTotal + 1) % 2 ^ s.params.cntW
      cmd := s.cmd.set (resolve k (decCmd s.params.endian (f.data.take 24)).index)
        (decCmd s.params.endian (f.data.take 24))
      cntPdo := (s.cntPdo + 1) % 2 ^ s.params.cntW }

/-- R167, R169, R171, the unrecognized path: every frame outside this role's inbound range, or too short for its record,
overwrites the snapshot, zero bytes after its payload, and sets `pending`; `S.cnt_total` and `S.cnt_other` gain 1; the
table is not touched (decisions D5, D7, D8, D10). -/
def Obligations.OtherFramesOverwriteTheSnapshot : Prop :=
  ∀ (s : State) (f : RxFrame), ∀ i ∈ receives f,
    s.mode = .running → f.data.length ≤ 64 →
    (s.role = .hub →
      ¬ (s.baseT.toNat ≤ f.id.toNat ∧ f.id.toNat ≤ s.baseT.toNat + 14 ∧ 40 ≤ f.data.length)) →
    (s.role = .sat →
      ¬ (s.baseC.toNat ≤ f.id.toNat ∧ f.id.toNat ≤ s.baseC.toNat + 14 ∧ 24 ≤ f.data.length)) →
    ∃ d : Diag, exec i s = .next { s with
        cntTotal := (s.cntTotal + 1) % 2 ^ s.params.cntW
        diag := d
        cntOther := (s.cntOther + 1) % 2 ^ s.params.cntW } ∧
      d.pending = true ∧ d.id = f.id ∧ d.dlc = f.dlc ∧ d.brs = f.brs ∧ d.fdf = f.fdf ∧
      d.data.toList = f.data ++ zeros (64 - f.data.length)

/-- R165: outside `RUNNING` nothing that comes from the receive side changes anything, and no `RxPop()` is made
(decision D12). -/
def Obligations.ReceiveSideIsIgnoredOutsideRunning : Prop :=
  ∀ (s : State) (f : RxFrame), s.mode ≠ .running →
    exec .rxAct s = .next s ∧ ∀ i ∈ receives f, exec i s = .next s

/-- R64, R67, R170: a recognized frame's record lands whole in the bytes of its slot, and every byte of both spaces
outside that slot reads as before. The byte map is derived by the spec. -/
def Obligations.ReceivedRecordChangesOnlyItsSlotsBytes : Prop :=
  ∀ (s t : State) (f : RxFrame) (j : Fin 15) (r : Record),
    s.mode = .running → recognize s f = some (j, r) → exec (.rxFrame f) s = .next t →
    (s.role = .hub → memRead t .tel (40 * j) 40 = f.data.take 40 ∧
      ∀ (sp : Arr) (a : Nat), ¬ (sp = .tel ∧ 40 * j ≤ a ∧ a < 40 * j + 40) → memByte t sp a = memByte s sp a) ∧
    (s.role = .sat → memRead t .cmd (24 * j) 24 = f.data.take 24 ∧
      ∀ (sp : Arr) (a : Nat), ¬ (sp = .cmd ∧ 24 * j ≤ a ∧ a < 24 * j + 24) → memByte t sp a = memByte s sp a)

/-- R173: `RX_ERR` changes no state, `S.cnt_total` included (decision D11). -/
def Obligations.RxErrChangesNothing : Prop := ∀ s : State, exec .rxErr s = .next s

/-- R166: the loop of `RX_ACT`. An activation asks `RxPop()`; on `Empty` it returns, on `Err` it performs `RX_ERR` and
returns, on a frame it performs `RX_FRAME` and goes on. Two points are the model's choice: that a list of answers that is
used up reads as `Empty`, so that every activation ends, which R317 gives only as a premise (log entry 2), and that an
activation is one step (log entry 11). -/
def Obligations.ActivationFollowsTheLoop : Prop :=
  ∀ s : State, s.mode = .running →
    ((s.rxPop).1 = .empty → exec .rxAct s = .next (s.rxPop).2) ∧
    ((s.rxPop).1 = .err → exec .rxAct s = exec .rxErr (s.rxPop).2) ∧
    (∀ f, (s.rxPop).1 = .frame f → ∃ t, execAll [.rxFrame f, .rxAct] (s.rxPop).2 = .next t ∧ exec .rxAct s = .next t)

/-- R71, R78, R174: an activation is its frames one by one, in the order of the queue's answers, up to the first `Empty`
or `Err`; whether one activation drains them or several events do makes no difference. That the listed answers end is
the model's own premise (R317, log entry 2). -/
def Obligations.ActivationIsItsFramesOneByOne : Prop :=
  ∀ (s : State) (fs : List RxFrame) (stop : List RxAnswer),
    s.mode = .running → s.env.rxAnswers = fs.map RxAnswer.frame ++ stop →
    (stop = [] ∨ stop.head? = some .empty ∨ stop.head? = some .err) →
    ∃ t, exec .rxAct s = .next t ∧
      execAll (fs.map Instr.rxFrame) { s with env := { s.env with rxAnswers := stop.tail } } = .next t

/-- R177, R79: an activation at a hub whose frames are all recognized and resolve to different slots updates each of those
slots with its frame's record and leaves every other slot alone, and `S.cnt_total` and `S.cnt_pdo` gain the number of
frames. The spec derives it from the source's property of 15 frames. -/
def Obligations.ActivationUpdatesEachSlotOnce : Prop :=
  ∀ (s : State) (fs : List RxFrame) (slot : RxFrame → Fin 15) (record : RxFrame → TelRecord),
    s.Inv → s.mode = .running → s.role = .hub → s.env.rxAnswers = fs.map RxAnswer.frame ++ [.empty] →
    (∀ f ∈ fs, recognize s f = some (slot f, .tel (record f))) → (fs.map slot).Nodup →
    ∃ t, exec .rxAct s = .next t ∧
      (∀ f ∈ fs, t.tel[slot f] = record f) ∧ (∀ i : Fin 15, i ∉ fs.map slot → t.tel[i] = s.tel[i]) ∧
      t.cntTotal = (s.cntTotal + fs.length) % 2 ^ s.params.cntW ∧
      t.cntPdo = (s.cntPdo + fs.length) % 2 ^ s.params.cntW ∧ t.cntOther = s.cntOther ∧ t.diag = s.diag

/-- R79: "Last write wins. Each slot holds the record of the most recent `RX_FRAME` that resolved to it": after any
frames, then one that resolves to slot `j`, then any frames that do not, slot `j` of the owned array holds that one's
record. -/
def Obligations.LastWriteWins : Prop :=
  ∀ (s : State) (fs gs : List RxFrame) (f : RxFrame) (j : Fin 15) (r : Record),
    s.mode = .running → recognize s f = some (j, r) →
    (∀ g ∈ gs, ∀ (j' : Fin 15) (r' : Record), recognize s g = some (j', r') → j' ≠ j) →
    ∃ t, execAll ((fs ++ f :: gs).map Instr.rxFrame) s = .next t ∧
      (s.role = .hub → Record.tel t.tel[j] = r) ∧ (s.role = .sat → Record.cmd t.cmd[j] = r)

/-- R176: while a snapshot is pending it describes the most recent unrecognized frame; recognized frames after it leave
it alone. The spec derives it. -/
def Obligations.SnapshotIsTheLastUnrecognizedFrame : Prop :=
  ∀ (s : State) (fs gs : List RxFrame) (f : RxFrame),
    s.mode = .running → f.wellFormed = true → recognize s f = none → (∀ g ∈ gs, (recognize s g).isSome = true) →
    ∃ t u, execAll ((fs ++ f :: gs).map Instr.rxFrame) s = .next t ∧ t.diag.pending = true ∧
      exec .getDiag t = .next u ∧
      u.env.responses = s.env.responses ++ [⟨true, .none, 0, some f⟩] ∧ u.diag.pending = false

/-- R175: `GET_DIAG` returns the pending snapshot's first `LenOf(fdf, dlc)` bytes and clears `pending` alone; with none
pending it returns `valid = 0` and changes nothing (decisions D10, D13). -/
def Obligations.GetDiagReturnsAndClears : Prop :=
  ∀ s : State,
    (s.diag.pending = true → exec .getDiag s = .next { s with
      diag := { s.diag with pending := false }
      env := { s.env with responses := s.env.responses ++ [⟨true, .none, 0,
        some ⟨s.diag.id, s.diag.dlc, s.diag.fdf, s.diag.brs,
          s.diag.data.toList.take (lenOf s.diag.fdf s.diag.dlc)⟩⟩] } }) ∧
    (s.diag.pending = false → exec .getDiag s =
      .next { s with env := { s.env with responses := s.env.responses ++ [⟨true, .none, 0, none⟩] } })

/-! ### The Transmit Assembler -/

/-- R206, R207, R211, R212: `SEND_CMD` at a hub offers, once, the command frame of the local record with its index forced
to the target slot, at identifier `BASE_C + idx`; the response is the controller's answer; no state of the block changes,
the record's own index word included (decisions D15, D18, D20). -/
def Obligations.SendCmdOffersTheForcedFrame : Prop :=
  ∀ (s : State) (idx : BitVec 4) (h : idx.toNat < 15), s.mode = .running → s.role = .hub →
    exec (.sendCmd idx) s = .next { s with env := { s.env with
      txAnswers := s.env.txAnswers.tail
      txPushes := s.env.txPushes + 1
      sent := if s.txAnswer then s.env.sent ++ [⟨BitVec.ofNat 11 (s.baseC.toNat + idx.toNat), 12, true, true, false, false,
        encCmd s.params.endian ((s.cmd[idx.toNat]).withIndex (BitVec.ofNat 32 idx.toNat))⟩] else s.env.sent
      responses := s.env.responses ++
        [if s.txAnswer then ⟨true, .none, 0, none⟩ else ⟨false, .txFail, 0, none⟩] } }

/-- R208, R211, R213: `SEND_TEL` at a satellite offers, once, the 48-byte telemetry frame of the local record, its index
forced only under `TEL_FORCE_INDEX` (decisions D15, D17, D18, D19, D20). -/
def Obligations.SendTelOffersTheRecord : Prop :=
  ∀ (s : State) (idx : BitVec 4) (h : idx.toNat < 15), s.mode = .running → s.role = .sat →
    exec (.sendTel idx) s = .next { s with env := { s.env with
      txAnswers := s.env.txAnswers.tail
      txPushes := s.env.txPushes + 1
      sent := if s.txAnswer then s.env.sent ++ [⟨BitVec.ofNat 11 (s.baseT.toNat + idx.toNat), 14, true, true, false, false,
        encTel s.params.endian (if s.params.telForceIndex then (s.tel[idx.toNat]).withIndex (BitVec.ofNat 32 idx.toNat)
          else s.tel[idx.toNat]) ++ zeros 8⟩] else s.env.sent
      responses := s.env.responses ++
        [if s.txAnswer then ⟨true, .none, 0, none⟩ else ⟨false, .txFail, 0, none⟩] } }

/-- R209, R211, R214: `SEND_KEEPALIVE` in either role offers, once, 32 zero bytes at the caller's identifier (decisions
D16, D19, D20). -/
def Obligations.SendKeepaliveOffersZeros : Prop :=
  ∀ (s : State) (imm : Ident), s.mode = .running →
    exec (.sendKeepalive imm) s = .next { s with env := { s.env with
      txAnswers := s.env.txAnswers.tail
      txPushes := s.env.txPushes + 1
      sent := if s.txAnswer then s.env.sent ++ [⟨imm, 13, true, true, false, false, zeros 32⟩] else s.env.sent
      responses := s.env.responses ++
        [if s.txAnswer then ⟨true, .none, 0, none⟩ else ⟨false, .txFail, 0, none⟩] } }

/-- R210, R263: the sends are refused in the order `NOT_RUNNING`, `WRONG_ROLE`, `BAD_INDEX`, with no `TxPush` and no state
change (decisions D16, D18, D23, D27). -/
def Obligations.SendsAreRefusedInOrder : Prop :=
  ∀ (s : State) (idx : BitVec 4) (imm : Ident),
    (s.mode ≠ .running → ∀ i ∈ [Instr.sendCmd idx, .sendTel idx, .sendKeepalive imm], exec i s =
      .next { s with env := { s.env with responses := s.env.responses ++ [⟨false, .notRunning, 0, none⟩] } }) ∧
    (s.mode = .running → s.role = .sat → exec (.sendCmd idx) s =
      .next { s with env := { s.env with responses := s.env.responses ++ [⟨false, .wrongRole, 0, none⟩] } }) ∧
    (s.mode = .running → s.role = .hub → exec (.sendTel idx) s =
      .next { s with env := { s.env with responses := s.env.responses ++ [⟨false, .wrongRole, 0, none⟩] } }) ∧
    (s.mode = .running → s.role = .hub → 15 ≤ idx.toNat → exec (.sendCmd idx) s =
      .next { s with env := { s.env with responses := s.env.responses ++ [⟨false, .badIndex, 0, none⟩] } }) ∧
    (s.mode = .running → s.role = .sat → 15 ≤ idx.toNat → exec (.sendTel idx) s =
      .next { s with env := { s.env with responses := s.env.responses ++ [⟨false, .badIndex, 0, none⟩] } })

/-- A frame of format TXD, taken as an event of its own, is offered to the controller while the block is `RUNNING` in the
role that sends that kind, where it is a frame that R206, R207, R208 or R209 forms: a command frame at the command base
plus a motor index, its index word that index; a telemetry frame at the telemetry base plus a motor index, its index word
that index under `TEL_FORCE_INDEX`; a keepalive at any identifier. Elsewhere nothing happens. That these rows are events,
and that a frame the block would not build does nothing, is the model's choice (log entry 6). -/
def Obligations.TxdFramesAreOffered : Prop :=
  ∀ s : State,
    (∀ (i : Fin 15) (r : CmdRecord) (id : Ident) (data : List Byte), s.mode = .running → s.role = .hub →
      id = BitVec.ofNat 11 (s.baseC.toNat + i) → data = encCmd s.params.endian (r.withIndex (BitVec.ofNat 32 i)) →
      exec (.txdCmd id data) s = .next { s with env := { s.env with
        txAnswers := s.env.txAnswers.tail, txPushes := s.env.txPushes + 1
        sent := if s.txAnswer then s.env.sent ++ [⟨id, 12, true, true, false, false, data⟩] else s.env.sent } }) ∧
    (∀ (i : Fin 15) (r : TelRecord) (id : Ident) (data : List Byte), s.mode = .running → s.role = .sat →
      id = BitVec.ofNat 11 (s.baseT.toNat + i) → data = encTel s.params.endian r ++ zeros 8 →
      (s.params.telForceIndex = true → r.index = BitVec.ofNat 32 i) →
      exec (.txdTel id data) s = .next { s with env := { s.env with
        txAnswers := s.env.txAnswers.tail, txPushes := s.env.txPushes + 1
        sent := if s.txAnswer then s.env.sent ++ [⟨id, 14, true, true, false, false, data⟩] else s.env.sent } }) ∧
    (∀ id : Ident, s.mode = .running → exec (.txdKa id) s = .next { s with env := { s.env with
      txAnswers := s.env.txAnswers.tail, txPushes := s.env.txPushes + 1
      sent := if s.txAnswer then s.env.sent ++ [⟨id, 13, true, true, false, false, zeros 32⟩] else s.env.sent } }) ∧
    (∀ (id : Ident) (data : List Byte), s.mode ≠ .running ∨ s.role = .sat ∨
      (¬ ∃ i : Fin 15, id = BitVec.ofNat 11 (s.baseC.toNat + i) ∧ data.length = 24 ∧
        word32 s.params.endian (data.take 4) = BitVec.ofNat 32 i) → exec (.txdCmd id data) s = .next s) ∧
    (∀ (id : Ident) (data : List Byte), s.mode ≠ .running ∨ s.role = .hub ∨
      (¬ ∃ i : Fin 15, id = BitVec.ofNat 11 (s.baseT.toNat + i) ∧ data.length = 48 ∧ data.drop 40 = zeros 8 ∧
        (s.params.telForceIndex = true → word32 s.params.endian (data.take 4) = BitVec.ofNat 32 i)) →
      exec (.txdTel id data) s = .next s) ∧
    (∀ id : Ident, s.mode ≠ .running → exec (.txdKa id) s = .next s)

/-- R92, R207, R215, R216: whatever the block performs, it offers at most one frame, and a frame that leaves has
`fdf = 1`, `brs = 1`, `rtr = 0`, `ide = 0` and is of one of three kinds: at a hub a command frame of 24 bytes with length
code 12, at the command base plus a motor index, its index word that index; at a satellite a telemetry frame of 48 bytes
with length code 14, at the telemetry base plus a motor index, its index word that index under `TEL_FORCE_INDEX` and its
last 8 bytes zero; in either role a keepalive of 32 zero bytes with length code 13 (decisions D15, D17, D19, D20; that
the rows of format TXD keep to it too is log entry 6). -/
def Obligations.OutboundFramesHaveTheFixedFormat : Prop :=
  ∀ (i : Instr) (s : State), ∃ t, exec i s = .next t ∧
    t.env.txPushes ≤ s.env.txPushes + 1 ∧
    (t.env.sent = s.env.sent ∨ ∃ g, t.env.sent = s.env.sent ++ [g] ∧ t.env.txPushes = s.env.txPushes + 1 ∧
      g.fdf = true ∧ g.brs = true ∧ g.rtr = false ∧ g.ide = false ∧
      ((s.role = .hub ∧ g.dlc = 12 ∧ g.data.length = 24 ∧ ∃ k : Fin 15,
          g.id = BitVec.ofNat 11 (s.baseC.toNat + k) ∧
          word32 s.params.endian (g.data.take 4) = BitVec.ofNat 32 k) ∨
        (s.role = .sat ∧ g.dlc = 14 ∧ g.data.length = 48 ∧ g.data.drop 40 = zeros 8 ∧ ∃ k : Fin 15,
          g.id = BitVec.ofNat 11 (s.baseT.toNat + k) ∧
          (s.params.telForceIndex = true → word32 s.params.endian (g.data.take 4) = BitVec.ofNat 32 k)) ∨
        (g.dlc = 13 ∧ g.data = zeros 32)))

/-- R210, R249: outside `RUNNING` nothing is offered to the controller's transmit queue, whatever the block performs
(decisions D12, D27). -/
def Obligations.NothingIsSentOutsideRunning : Prop :=
  ∀ (i : Instr) (s : State), s.mode ≠ .running →
    ∃ t, exec i s = .next t ∧ t.env.sent = s.env.sent ∧ t.env.txPushes = s.env.txPushes

/-- R207, with R170: a command frame a hub sends, received by a satellite with the same command base and byte order, is
stored in the slot it was sent for, word for word but the forced index. The spec derives the consequence. -/
def Obligations.CommandReachesItsSlotAtTheSatellite : Prop :=
  ∀ (h s : State) (idx : BitVec 4) (hi : idx.toNat < 15),
    h.mode = .running → h.role = .hub → h.txAnswer = true →
    s.mode = .running → s.role = .sat → cfgValid s.baseT s.baseC = true →
    s.baseC = h.baseC → s.params.endian = h.params.endian →
    ∃ (h' : State) (g : TxFrame) (s' : State),
      exec (.sendCmd idx) h = .next h' ∧ h'.env.sent = h.env.sent ++ [g] ∧
      exec (.rxFrame ⟨g.id, g.dlc, g.fdf, g.brs, g.data⟩) s = .next s' ∧
      s'.cmd = s.cmd.set idx.toNat ((h.cmd[idx.toNat]).withIndex (BitVec.ofNat 32 idx.toNat)) ∧
      s'.cntPdo = (s.cntPdo + 1) % 2 ^ s.params.cntW ∧ s'.diag = s.diag

/-- R316: a keepalive whose identifier lies in the command range overwrites command slot 0 of a satellite with the
all-zero record, whatever the identifier's offset. The spec derives it. -/
def Obligations.KeepaliveInCommandRangeZeroesSlotZero : Prop :=
  ∀ (h s : State) (imm : Ident) (k : Fin 15),
    h.mode = .running → h.txAnswer = true →
    s.mode = .running → s.role = .sat → cfgValid s.baseT s.baseC = true → imm.toNat = s.baseC.toNat + k →
    ∃ (h' : State) (g : TxFrame) (s' : State),
      exec (.sendKeepalive imm) h = .next h' ∧ h'.env.sent = h.env.sent ++ [g] ∧
      exec (.rxFrame ⟨g.id, g.dlc, g.fdf, g.brs, g.data⟩) s = .next s' ∧
      s'.cmd = s.cmd.set 0 CmdRecord.zero

/-- R114: `sendCommand(i, rec)` with an index below 15 stores the record in the hub's local slot and offers its command
frame; with 15 every step is refused with `BAD_INDEX` and nothing is sent; an index that does not fit the field issues no
operation (decision D15, 90_conflicts.md C11). -/
def Obligations.SendCommandStoresThenSends : Prop :=
  ∀ (s : State) (r : CmdRecord), s.mode = .running → s.role = .hub →
    (∀ (n : Nat) (h : n < 15), ∃ ops t, sendCommandCall n r = some ops ∧ execAll ops s = .next t ∧
      t.cmd = s.cmd.set n r ∧ t.tel = s.tel ∧
      t.env.sent = if s.txAnswer then s.env.sent ++ [⟨BitVec.ofNat 11 (s.baseC.toNat + n), 12, true, true, false, false,
        encCmd s.params.endian (r.withIndex (BitVec.ofNat 32 n))⟩] else s.env.sent) ∧
    (∃ ops t, sendCommandCall 15 r = some ops ∧ execAll ops s = .next t ∧
      t = { s with env := { s.env with responses := s.env.responses ++ List.replicate 7 ⟨false, .badIndex, 0, none⟩ } }) ∧
    (∀ n : Int, n < 0 ∨ 16 ≤ n → sendCommandCall n r = none)

/-! ### Reset, the invariant, and rules of the whole block -/

/-- R26, R50, R300: the state after reset has every element of `S` at its reset value, both arrays all zero; and `RESET`
gives every element that value from any state. The parameters are the instance's and the controller's queues are not the
block's to reset (R9, R301; decisions D1, D25, D26; the quiet environment is log entry 2). -/
def Obligations.ResetRestoresEveryElement : Prop :=
  (∀ s : State, exec .reset s = .next {
    mode := .unconfigured, role := .hub, tickModel := .counting, baseT := 0, baseC := 0
    tel := Vector.replicate 15 ⟨Vector.replicate 10 0⟩, cmd := Vector.replicate 15 ⟨Vector.replicate 6 0⟩
    diag := ⟨false, 0, 0, false, false, Vector.replicate 64 0⟩
    tick := 0, cntTotal := 0, cntPdo := 0, cntOther := 0, params := s.params, env := s.env }) ∧
  exec .reset State.reset = .next State.reset

/-- The invariant holds right after reset. -/
def Obligations.ResetMeetsTheInvariant : Prop := State.reset.Inv

/-- R22, R32, R36: from every state that meets the invariant, a step that goes on gives a state that meets it: in
`RUNNING` the ranges fit and are disjoint, elsewhere everything but the mode is at reset, the flag model uses bit 0 only,
every count fits its width, and `S.cnt_total` is the sum of the other two modulo `2^CNT_W`. -/
def Obligations.StepKeepsTheInvariant : Prop :=
  ∀ s t : State, s.Inv → step s = .next t → t.Inv

/-- R21, R22, R231: the mode machine and the configuration. The mode leaves `UNCONFIGURED` only by `INIT`; `RUNNING` and
`FAILED` are left only by `RESET`; and the configuration of a running block never changes (decision D25). -/
def Obligations.ModeMovesOnlyByInitAndReset : Prop :=
  ∀ (i : Instr) (s : State), i ≠ .reset → ∃ t, exec i s = .next t ∧
    (s.mode ≠ .unconfigured ∨ (∀ cfg, i ≠ .init cfg) →
      t.mode = s.mode ∧ t.role = s.role ∧ t.tickModel = s.tickModel ∧ t.baseT = s.baseT ∧ t.baseC = s.baseC) ∧
    (s.mode = .unconfigured → (∃ cfg, i = .init cfg) → t.mode = .running ∨ t.mode = .failed)

/-- R26, R27, R28: apart from reset, the owned array is written by received frames alone (`RX_ACT`, `RX_FRAME`, the rows
of format RXD), and so by no tick and no `RX_ERR`, and the local array by `TBL_WRITE` alone. -/
def Obligations.EachArrayIsWrittenByItsOwnerOnly : Prop :=
  ∀ (i : Instr) (s : State), i ≠ .reset → ∃ t, exec i s = .next t ∧
    (i ≠ .rxAct → (∀ f, i ∉ receives f) → (s.role = .hub → t.tel = s.tel) ∧ (s.role = .sat → t.cmd = s.cmd)) ∧
    ((∀ arr idx fld v, i ≠ .tblWrite arr idx fld v) →
      (s.role = .hub → t.cmd = s.cmd) ∧ (s.role = .sat → t.tel = s.tel))

/-- R28, R30, R68: no host operation moves a counter; of the host operations only `GET_DIAG` touches the snapshot, and only
`CONSUME_TICKS` touches `S.tick`. -/
def Obligations.HostOperationsLeaveInterruptState : Prop :=
  ∀ (i : Instr) (s : State), context i = .mainLoop → ∃ t, exec i s = .next t ∧
    t.cntTotal = s.cntTotal ∧ t.cntPdo = s.cntPdo ∧ t.cntOther = s.cntOther ∧
    (i ≠ .getDiag → t.diag = s.diag) ∧ (i ≠ .consumeTicks → t.tick = s.tick)

/-- R16, R102, R250: every host operation is answered at once, with exactly one response, whose cause is `NONE` exactly
when `ok = 1` and whose `rdata` is 0 whenever `ok = 0`; no other event gives a response. -/
def Obligations.EveryHostOperationIsAnsweredOnce : Prop :=
  ∀ (i : Instr) (s : State), ∃ t, exec i s = .next t ∧
    (context i = .mainLoop → ∃ r : Response, t.env.responses = s.env.responses ++ [r] ∧
      (r.ok = true ↔ r.cause = .none) ∧ (r.ok = false → r.rdata = 0 ∧ r.diag = none)) ∧
    (context i ≠ .mainLoop → t.env.responses = s.env.responses)

/-- R260, R331: "The block raises no synchronous exception and takes no trap": every operation and event, in every state,
has a next state; and a run stops only where a transfer breaks R91 or R92 (log entry 7). That every `RX_ACT` has one, so
that every activation ends, is the model's choice: R317 gives it only as a premise (log entry 2). -/
def Obligations.BlockTakesNoTrap : Prop :=
  (∀ (i : Instr) (s : State), ∃ t, exec i s = .next t) ∧
  (∀ s : State, (∃ t, step s = .next t) ∨
    ∃ x rest why, s.env.inbox = x :: rest ∧ decode x = .error why ∧ step s = .refused (.badTransfer why))
end

