-- ==== Sys2Proof/Laws/PerInstr.lean ====
section
/-! SUPPORT. The family `TableRow`: every instruction's encoding has the fixed bits of its row of spec/opcode_table.json,
on the port of its row's format. -/

namespace Sys2Proof.Laws

/-- An append whose low part is `n` bits wide, read from bit `n` on, is its high part. -/
theorem extract_high {m n : Nat} (a : BitVec m) (b : BitVec n) : (a ++ b).extractLsb' n m = a := by
  apply BitVec.eq_of_getLsbD_eq
  intro i hi
  simp [BitVec.getLsbD_append, hi]

/-- An append, read within its low part. -/
theorem extract_low {m n k l : Nat} (a : BitVec m) (b : BitVec n) (h : k + l ≤ n) :
    (a ++ b).extractLsb' k l = b.extractLsb' k l := by
  apply BitVec.eq_of_getLsbD_eq
  intro i hi
  simp only [BitVec.getLsbD_extractLsb', BitVec.getLsbD_append, hi, decide_true, Bool.true_and]
  rw [if_pos (by omega)]

/-- An append, read within its high part. -/
theorem extract_above {m n k l : Nat} (a : BitVec m) (b : BitVec n) :
    (a ++ b).extractLsb' (n + k) l = a.extractLsb' k l := by
  apply BitVec.eq_of_getLsbD_eq
  intro i hi
  simp only [BitVec.getLsbD_extractLsb', BitVec.getLsbD_append, hi, decide_true, Bool.true_and]
  rw [if_neg (by omega), show n + k + i - n = k + i by omega]

/-- The operation code of a request word (R100). -/
theorem requestWord_op (op : BitVec 4) (arr : BitVec 1) (idx fld : BitVec 4) (imm : BitVec 11) :
    (requestWord op arr idx fld imm).extractLsb' 28 4 = op := by
  apply BitVec.eq_of_getLsbD_eq
  intro i hi
  simp only [requestWord, BitVec.getLsbD_extractLsb', BitVec.getLsbD_append, hi, decide_true, Bool.true_and]
  rw [if_neg (by omega), if_neg (by omega), if_neg (by omega), if_neg (by omega), if_neg (by omega)]
  congr 1
  omega

/-- The identifier of a receive header word (R91). -/
theorem rxHeader_id (f : RxFrame) : (rxHeader f).extractLsb' 0 11 = f.id := by
  apply BitVec.eq_of_getLsbD_eq
  intro i hi
  simp only [rxHeader, BitVec.getLsbD_extractLsb', BitVec.getLsbD_append, hi, decide_true, Bool.true_and]
  rw [if_pos (by omega)]
  congr 1
  omega

/-- The bits of a transmit header word above the identifier (R92). -/
theorem txHeader_high (dlc : BitVec 4) (id : Ident) :
    (txHeader false false true true dlc id).extractLsb' 11 21 = (3 : BitVec 17) ++ dlc := by
  rw [show txHeader false false true true dlc id = ((3 : BitVec 17) ++ dlc) ++ id from rfl, extract_high]

/-- A transfer has the fixed bits `op` in `REQ[31:28]`. -/
def IsRequest (op : BitVec 4) : Transfer → Prop
  | .host req _ => req.extractLsb' 28 4 = op
  | _ => False

/-- A transfer is a received frame of the given class under the default bases. -/
def IsRxd (p : Ident → Bool) : Transfer → Prop
  | .rxd hdr _ => p (hdr.extractLsb' 0 11) = true
  | _ => False

/-- A transfer is a transmitted frame with the given bits above its identifier. -/
def IsTxd (high : BitVec 21) : Transfer → Prop
  | .txd hdr _ => hdr.extractLsb' 11 21 = high
  | _ => False

/-- What the row of each instruction fixes of its transfer. -/
def TableRow.Statement : Instr → Prop
  | .nop => IsRequest 0 (encode (.nop))
  | .init cfg => IsRequest 1 (encode (.init cfg))
  | .consumeTicks => IsRequest 2 (encode (.consumeTicks))
  | .getDiag => IsRequest 3 (encode (.getDiag))
  | .sendCmd idx => IsRequest 4 (encode (.sendCmd idx))
  | .sendTel idx => IsRequest 5 (encode (.sendTel idx))
  | .sendKeepalive imm => IsRequest 6 (encode (.sendKeepalive imm))
  | .tblRead arr idx fld => IsRequest 7 (encode (.tblRead arr idx fld))
  | .tblWrite arr idx fld wdata => IsRequest 8 (encode (.tblWrite arr idx fld wdata))
  | .rdCsr imm => IsRequest 9 (encode (.rdCsr imm))
  | .reservedA => IsRequest 10 (encode (.reservedA))
  | .reservedB => IsRequest 11 (encode (.reservedB))
  | .reservedC => IsRequest 12 (encode (.reservedC))
  | .reservedD => IsRequest 13 (encode (.reservedD))
  | .reservedE => IsRequest 14 (encode (.reservedE))
  | .reservedF => IsRequest 15 (encode (.reservedF))
  | .tick => encode (.tick) = .tickIrq
  | .rxAct => encode (.rxAct) = .rxIrq
  | .rxFrame f => encode (.rxFrame f) = .rxFrame (rxHeader f) f.data
  | .rxErr => encode (.rxErr) = .rxErr
  | .reset => encode (.reset) = .rst
  | .rxdTel f => (Instr.rxdTel f).wellFormed = true → IsRxd (Machine.isDefaultTel) (encode (.rxdTel f))
  | .rxdCmd f => (Instr.rxdCmd f).wellFormed = true → IsRxd (Machine.isDefaultCmd) (encode (.rxdCmd f))
  | .rxdUnrec f => (Instr.rxdUnrec f).wellFormed = true → IsRxd (fun id => !Machine.isDefaultTel id && !Machine.isDefaultCmd id) (encode (.rxdUnrec f))
  | .txdCmd id data => IsTxd 60 (encode (.txdCmd id data))
  | .txdKa id => IsTxd 61 (encode (.txdKa id))
  | .txdTel id data => IsTxd 62 (encode (.txdTel id data))

theorem TableRow.nop : TableRow.Statement (.nop) := requestWord_op _ _ _ _ _
theorem TableRow.init (cfg : RoleConfig) : TableRow.Statement (.init cfg) := requestWord_op _ _ _ _ _
theorem TableRow.consumeTicks : TableRow.Statement (.consumeTicks) := requestWord_op _ _ _ _ _
theorem TableRow.getDiag : TableRow.Statement (.getDiag) := requestWord_op _ _ _ _ _
theorem TableRow.sendCmd (idx : BitVec 4) : TableRow.Statement (.sendCmd idx) := requestWord_op _ _ _ _ _
theorem TableRow.sendTel (idx : BitVec 4) : TableRow.Statement (.sendTel idx) := requestWord_op _ _ _ _ _
theorem TableRow.sendKeepalive (imm : Ident) : TableRow.Statement (.sendKeepalive imm) := requestWord_op _ _ _ _ _
theorem TableRow.tblRead (arr : Arr) (idx fld : BitVec 4) : TableRow.Statement (.tblRead arr idx fld) := requestWord_op _ _ _ _ _
theorem TableRow.tblWrite (arr : Arr) (idx fld : BitVec 4) (wdata : Word) : TableRow.Statement (.tblWrite arr idx fld wdata) := requestWord_op _ _ _ _ _
theorem TableRow.rdCsr (imm : BitVec 11) : TableRow.Statement (.rdCsr imm) := requestWord_op _ _ _ _ _
theorem TableRow.reservedA : TableRow.Statement (.reservedA) := requestWord_op _ _ _ _ _
theorem TableRow.reservedB : TableRow.Statement (.reservedB) := requestWord_op _ _ _ _ _
theorem TableRow.reservedC : TableRow.Statement (.reservedC) := requestWord_op _ _ _ _ _
theorem TableRow.reservedD : TableRow.Statement (.reservedD) := requestWord_op _ _ _ _ _
theorem TableRow.reservedE : TableRow.Statement (.reservedE) := requestWord_op _ _ _ _ _
theorem TableRow.reservedF : TableRow.Statement (.reservedF) := requestWord_op _ _ _ _ _
theorem TableRow.tick : TableRow.Statement (.tick) := rfl
theorem TableRow.rxAct : TableRow.Statement (.rxAct) := rfl
theorem TableRow.rxFrame (f : RxFrame) : TableRow.Statement (.rxFrame f) := rfl
theorem TableRow.rxErr : TableRow.Statement (.rxErr) := rfl
theorem TableRow.reset : TableRow.Statement (.reset) := rfl
theorem TableRow.rxdTel (f : RxFrame) : TableRow.Statement (.rxdTel f) := by
  intro h
  simp only [Instr.wellFormed, Bool.and_eq_true] at h
  simp [IsRxd, encode, rxHeader_id, h]
theorem TableRow.rxdCmd (f : RxFrame) : TableRow.Statement (.rxdCmd f) := by
  intro h
  simp only [Instr.wellFormed, Bool.and_eq_true] at h
  simp [IsRxd, encode, rxHeader_id, h]
theorem TableRow.rxdUnrec (f : RxFrame) : TableRow.Statement (.rxdUnrec f) := by
  intro h
  simp only [Instr.wellFormed, Bool.and_eq_true] at h
  simp [IsRxd, encode, rxHeader_id, h]
theorem TableRow.txdCmd (id : Ident) (data : List Byte) : TableRow.Statement (.txdCmd id data) := txHeader_high _ _
theorem TableRow.txdKa (id : Ident) : TableRow.Statement (.txdKa id) := txHeader_high _ _
theorem TableRow.txdTel (id : Ident) (data : List Byte) : TableRow.Statement (.txdTel id data) := txHeader_high _ _

end Sys2Proof.Laws
end

