-- ==== Sys2Proof/Laws/Fields.lean ====
section
/-! SUPPORT. What each field of an encoded word reads as: the request word (spec/30_encoding.md R100), the configuration
word (R101), the header of a received frame (R91) and of a transmitted one (R92). -/

namespace Sys2Proof.Laws

/-! ### The request word (R100) -/

section Request
variable (op : BitVec 4) (arr : BitVec 1) (idx fld : BitVec 4) (imm : BitVec 11)

theorem requestWord_imm : (requestWord op arr idx fld imm).extractLsb' 0 11 = imm := by
  rw [requestWord, extract_low _ _ (Nat.le_refl 11), BitVec.extractLsb'_eq_self]

theorem requestWord_fld : (requestWord op arr idx fld imm).extractLsb' 19 4 = fld := by
  rw [requestWord, extract_above _ imm (k := 8), extract_above _ (0 : BitVec 8) (k := 0),
    extract_low _ fld (Nat.le_refl 4), BitVec.extractLsb'_eq_self]

theorem requestWord_idx : (requestWord op arr idx fld imm).extractLsb' 23 4 = idx := by
  rw [requestWord, extract_above _ imm (k := 12), extract_above _ (0 : BitVec 8) (k := 4),
    extract_above _ fld (k := 0), extract_low _ idx (Nat.le_refl 4), BitVec.extractLsb'_eq_self]

theorem requestWord_arr : (requestWord op arr idx fld imm).extractLsb' 27 1 = arr := by
  rw [requestWord, extract_above _ imm (k := 16), extract_above _ (0 : BitVec 8) (k := 8),
    extract_above _ fld (k := 4), extract_above _ idx (k := 0), extract_low _ arr (Nat.le_refl 1),
    BitVec.extractLsb'_eq_self]

end Request

/-- A one-bit field read as a bit. -/
theorem getLsbD_of_extract {n k : Nat} {v : BitVec n} {b : BitVec 1} (h : v.extractLsb' k 1 = b) :
    v.getLsbD k = b.getLsbD 0 := by
  rw [← h]; simp

theorem decodeArr_requestWord (op : BitVec 4) (a : Arr) (idx fld : BitVec 4) (imm : BitVec 11) :
    decodeArr (requestWord op (arrBit a) idx fld imm) = a := by
  rw [decodeArr, getLsbD_of_extract (requestWord_arr op (arrBit a) idx fld imm)]
  cases a <;> rfl

/-! ### The configuration word (R101) -/

/-- The configuration word and its reading agree, both words over the same four fields. -/
theorem decodeConfig_encodeConfig (c : RoleConfig) : decodeConfig (encodeConfig c) = c := by
  obtain ⟨r, t, bt, bc⟩ := c
  have hc : (encodeConfig ⟨r, t, bt, bc⟩).extractLsb' 13 11 = bc := by
    rw [encodeConfig, extract_above _ _ (k := 12), extract_above _ _ (k := 11), extract_above _ bt (k := 0),
      extract_low _ bc (Nat.le_refl 11), BitVec.extractLsb'_eq_self]
  have ht : (encodeConfig ⟨r, t, bt, bc⟩).extractLsb' 2 11 = bt := by
    rw [encodeConfig, extract_above _ _ (k := 1), extract_above _ _ (k := 0),
      extract_low _ bt (Nat.le_refl 11), BitVec.extractLsb'_eq_self]
  have h1 : (encodeConfig ⟨r, t, bt, bc⟩).extractLsb' 1 1 = tickModelField t := by
    rw [encodeConfig, extract_above _ _ (k := 0), extract_low _ _ (Nat.le_refl 1), BitVec.extractLsb'_eq_self]
  have h0 : (encodeConfig ⟨r, t, bt, bc⟩).extractLsb' 0 1 = roleField r := by
    rw [encodeConfig, extract_low _ _ (Nat.le_refl 1), BitVec.extractLsb'_eq_self]
  rw [decodeConfig, hc, ht, getLsbD_of_extract h1, getLsbD_of_extract h0]
  cases r <;> cases t <;> rfl

/-! ### The header words (R91, R92) -/

/-- The header of a received frame reads back as the frame (R91). -/
theorem rxFrameOf_rxHeader (f : RxFrame) : rxFrameOf (rxHeader f) f.data = f := by
  obtain ⟨id, dlc, fdf, brs, data⟩ := f
  have hd : (rxHeader ⟨id, dlc, fdf, brs, data⟩).extractLsb' 11 4 = dlc := by
    rw [rxHeader, extract_above _ id (k := 0), extract_low _ dlc (Nat.le_refl 4), BitVec.extractLsb'_eq_self]
  have hf : (rxHeader ⟨id, dlc, fdf, brs, data⟩).extractLsb' 15 1 = BitVec.ofBool fdf := by
    rw [rxHeader, extract_above _ id (k := 4), extract_above _ dlc (k := 0), extract_low _ _ (Nat.le_refl 1),
      BitVec.extractLsb'_eq_self]
  have hb : (rxHeader ⟨id, dlc, fdf, brs, data⟩).extractLsb' 16 1 = BitVec.ofBool brs := by
    rw [rxHeader, extract_above _ id (k := 5), extract_above _ dlc (k := 1), extract_above _ (BitVec.ofBool fdf) (k := 0),
      extract_low _ _ (Nat.le_refl 1), BitVec.extractLsb'_eq_self]
  rw [rxFrameOf, rxHeader_id, hd, getLsbD_of_extract hf, getLsbD_of_extract hb]
  cases fdf <;> cases brs <;> rfl

/-- The reserved bits of a received frame's header (R91). -/
theorem rxHeader_reserved (f : RxFrame) : (rxHeader f).extractLsb' 17 15 = 0 := by
  rw [rxHeader, extract_above _ f.id (k := 6), extract_above _ f.dlc (k := 2),
    extract_above _ (BitVec.ofBool f.fdf) (k := 1), extract_above _ (BitVec.ofBool f.brs) (k := 0)]
  exact BitVec.extractLsb'_eq_self

/-- The identifier of a transmitted frame's header (R92). -/
theorem txHeader_id (ide rtr brs fdf : Bool) (dlc : BitVec 4) (id : Ident) :
    (txHeader ide rtr brs fdf dlc id).extractLsb' 0 11 = id := by
  rw [txHeader, extract_low _ id (Nat.le_refl 11), BitVec.extractLsb'_eq_self]

end Sys2Proof.Laws
end

