-- ==== Sys2Proof/Laws/State.lean ====
section
/-! SUPPORT. One lemma per field per update of the state: what each named update leaves as it was, and what it sets. -/

namespace Sys2Proof.Machine

section Updates
variable (s : State)

/-! #### `respond` -/

@[simp] theorem State.respond_mode (r : Response) : (s.respond r).mode = s.mode := rfl
@[simp] theorem State.respond_role (r : Response) : (s.respond r).role = s.role := rfl
@[simp] theorem State.respond_tickModel (r : Response) : (s.respond r).tickModel = s.tickModel := rfl
@[simp] theorem State.respond_baseT (r : Response) : (s.respond r).baseT = s.baseT := rfl
@[simp] theorem State.respond_baseC (r : Response) : (s.respond r).baseC = s.baseC := rfl
@[simp] theorem State.respond_tel (r : Response) : (s.respond r).tel = s.tel := rfl
@[simp] theorem State.respond_cmd (r : Response) : (s.respond r).cmd = s.cmd := rfl
@[simp] theorem State.respond_diag (r : Response) : (s.respond r).diag = s.diag := rfl
@[simp] theorem State.respond_tick (r : Response) : (s.respond r).tick = s.tick := rfl
@[simp] theorem State.respond_cntTotal (r : Response) : (s.respond r).cntTotal = s.cntTotal := rfl
@[simp] theorem State.respond_cntPdo (r : Response) : (s.respond r).cntPdo = s.cntPdo := rfl
@[simp] theorem State.respond_cntOther (r : Response) : (s.respond r).cntOther = s.cntOther := rfl
@[simp] theorem State.respond_params (r : Response) : (s.respond r).params = s.params := rfl
@[simp] theorem State.respond_env (r : Response) : (s.respond r).env = { s.env with responses := s.env.responses ++ [r] } := rfl

/-! #### `accept` -/

@[simp] theorem State.accept_mode (v : Word) : (s.accept v).mode = s.mode := rfl
@[simp] theorem State.accept_role (v : Word) : (s.accept v).role = s.role := rfl
@[simp] theorem State.accept_tickModel (v : Word) : (s.accept v).tickModel = s.tickModel := rfl
@[simp] theorem State.accept_baseT (v : Word) : (s.accept v).baseT = s.baseT := rfl
@[simp] theorem State.accept_baseC (v : Word) : (s.accept v).baseC = s.baseC := rfl
@[simp] theorem State.accept_tel (v : Word) : (s.accept v).tel = s.tel := rfl
@[simp] theorem State.accept_cmd (v : Word) : (s.accept v).cmd = s.cmd := rfl
@[simp] theorem State.accept_diag (v : Word) : (s.accept v).diag = s.diag := rfl
@[simp] theorem State.accept_tick (v : Word) : (s.accept v).tick = s.tick := rfl
@[simp] theorem State.accept_cntTotal (v : Word) : (s.accept v).cntTotal = s.cntTotal := rfl
@[simp] theorem State.accept_cntPdo (v : Word) : (s.accept v).cntPdo = s.cntPdo := rfl
@[simp] theorem State.accept_cntOther (v : Word) : (s.accept v).cntOther = s.cntOther := rfl
@[simp] theorem State.accept_params (v : Word) : (s.accept v).params = s.params := rfl
@[simp] theorem State.accept_env (v : Word) : (s.accept v).env = { s.env with responses := s.env.responses ++ [⟨true, .none, v, none⟩] } := rfl

/-! #### `refuse` -/

@[simp] theorem State.refuse_mode (c : Cause) : (s.refuse c).mode = s.mode := rfl
@[simp] theorem State.refuse_role (c : Cause) : (s.refuse c).role = s.role := rfl
@[simp] theorem State.refuse_tickModel (c : Cause) : (s.refuse c).tickModel = s.tickModel := rfl
@[simp] theorem State.refuse_baseT (c : Cause) : (s.refuse c).baseT = s.baseT := rfl
@[simp] theorem State.refuse_baseC (c : Cause) : (s.refuse c).baseC = s.baseC := rfl
@[simp] theorem State.refuse_tel (c : Cause) : (s.refuse c).tel = s.tel := rfl
@[simp] theorem State.refuse_cmd (c : Cause) : (s.refuse c).cmd = s.cmd := rfl
@[simp] theorem State.refuse_diag (c : Cause) : (s.refuse c).diag = s.diag := rfl
@[simp] theorem State.refuse_tick (c : Cause) : (s.refuse c).tick = s.tick := rfl
@[simp] theorem State.refuse_cntTotal (c : Cause) : (s.refuse c).cntTotal = s.cntTotal := rfl
@[simp] theorem State.refuse_cntPdo (c : Cause) : (s.refuse c).cntPdo = s.cntPdo := rfl
@[simp] theorem State.refuse_cntOther (c : Cause) : (s.refuse c).cntOther = s.cntOther := rfl
@[simp] theorem State.refuse_params (c : Cause) : (s.refuse c).params = s.params := rfl
@[simp] theorem State.refuse_env (c : Cause) : (s.refuse c).env = { s.env with responses := s.env.responses ++ [⟨false, c, 0, none⟩] } := rfl

/-! #### `countTick` -/

@[simp] theorem State.countTick_mode : (s.countTick).mode = s.mode := by cases h : s.tickModel <;> simp [State.countTick, h]
@[simp] theorem State.countTick_role : (s.countTick).role = s.role := by cases h : s.tickModel <;> simp [State.countTick, h]
@[simp] theorem State.countTick_tickModel : (s.countTick).tickModel = s.tickModel := by cases h : s.tickModel <;> simp [State.countTick, h]
@[simp] theorem State.countTick_baseT : (s.countTick).baseT = s.baseT := by cases h : s.tickModel <;> simp [State.countTick, h]
@[simp] theorem State.countTick_baseC : (s.countTick).baseC = s.baseC := by cases h : s.tickModel <;> simp [State.countTick, h]
@[simp] theorem State.countTick_tel : (s.countTick).tel = s.tel := by cases h : s.tickModel <;> simp [State.countTick, h]
@[simp] theorem State.countTick_cmd : (s.countTick).cmd = s.cmd := by cases h : s.tickModel <;> simp [State.countTick, h]
@[simp] theorem State.countTick_diag : (s.countTick).diag = s.diag := by cases h : s.tickModel <;> simp [State.countTick, h]
@[simp] theorem State.countTick_cntTotal : (s.countTick).cntTotal = s.cntTotal := by cases h : s.tickModel <;> simp [State.countTick, h]
@[simp] theorem State.countTick_cntPdo : (s.countTick).cntPdo = s.cntPdo := by cases h : s.tickModel <;> simp [State.countTick, h]
@[simp] theorem State.countTick_cntOther : (s.countTick).cntOther = s.cntOther := by cases h : s.tickModel <;> simp [State.countTick, h]
@[simp] theorem State.countTick_params : (s.countTick).params = s.params := by cases h : s.tickModel <;> simp [State.countTick, h]
@[simp] theorem State.countTick_env : (s.countTick).env = s.env := by cases h : s.tickModel <;> simp [State.countTick, h]

/-! #### `clearTick` -/

@[simp] theorem State.clearTick_mode : (s.clearTick).mode = s.mode := rfl
@[simp] theorem State.clearTick_role : (s.clearTick).role = s.role := rfl
@[simp] theorem State.clearTick_tickModel : (s.clearTick).tickModel = s.tickModel := rfl
@[simp] theorem State.clearTick_baseT : (s.clearTick).baseT = s.baseT := rfl
@[simp] theorem State.clearTick_baseC : (s.clearTick).baseC = s.baseC := rfl
@[simp] theorem State.clearTick_tel : (s.clearTick).tel = s.tel := rfl
@[simp] theorem State.clearTick_cmd : (s.clearTick).cmd = s.cmd := rfl
@[simp] theorem State.clearTick_diag : (s.clearTick).diag = s.diag := rfl
@[simp] theorem State.clearTick_cntTotal : (s.clearTick).cntTotal = s.cntTotal := rfl
@[simp] theorem State.clearTick_cntPdo : (s.clearTick).cntPdo = s.cntPdo := rfl
@[simp] theorem State.clearTick_cntOther : (s.clearTick).cntOther = s.cntOther := rfl
@[simp] theorem State.clearTick_params : (s.clearTick).params = s.params := rfl
@[simp] theorem State.clearTick_env : (s.clearTick).env = s.env := rfl
@[simp] theorem State.clearTick_tick : (s.clearTick).tick = 0 := rfl

/-! #### `countTotal` -/

@[simp] theorem State.countTotal_mode : (s.countTotal).mode = s.mode := rfl
@[simp] theorem State.countTotal_role : (s.countTotal).role = s.role := rfl
@[simp] theorem State.countTotal_tickModel : (s.countTotal).tickModel = s.tickModel := rfl
@[simp] theorem State.countTotal_baseT : (s.countTotal).baseT = s.baseT := rfl
@[simp] theorem State.countTotal_baseC : (s.countTotal).baseC = s.baseC := rfl
@[simp] theorem State.countTotal_tel : (s.countTotal).tel = s.tel := rfl
@[simp] theorem State.countTotal_cmd : (s.countTotal).cmd = s.cmd := rfl
@[simp] theorem State.countTotal_diag : (s.countTotal).diag = s.diag := rfl
@[simp] theorem State.countTotal_tick : (s.countTotal).tick = s.tick := rfl
@[simp] theorem State.countTotal_cntPdo : (s.countTotal).cntPdo = s.cntPdo := rfl
@[simp] theorem State.countTotal_cntOther : (s.countTotal).cntOther = s.cntOther := rfl
@[simp] theorem State.countTotal_params : (s.countTotal).params = s.params := rfl
@[simp] theorem State.countTotal_env : (s.countTotal).env = s.env := rfl
@[simp] theorem State.countTotal_cntTotal : (s.countTotal).cntTotal = wrapInc s.params.cntW s.cntTotal := rfl

/-! #### `countPdo` -/

@[simp] theorem State.countPdo_mode : (s.countPdo).mode = s.mode := rfl
@[simp] theorem State.countPdo_role : (s.countPdo).role = s.role := rfl
@[simp] theorem State.countPdo_tickModel : (s.countPdo).tickModel = s.tickModel := rfl
@[simp] theorem State.countPdo_baseT : (s.countPdo).baseT = s.baseT := rfl
@[simp] theorem State.countPdo_baseC : (s.countPdo).baseC = s.baseC := rfl
@[simp] theorem State.countPdo_tel : (s.countPdo).tel = s.tel := rfl
@[simp] theorem State.countPdo_cmd : (s.countPdo).cmd = s.cmd := rfl
@[simp] theorem State.countPdo_diag : (s.countPdo).diag = s.diag := rfl
@[simp] theorem State.countPdo_tick : (s.countPdo).tick = s.tick := rfl
@[simp] theorem State.countPdo_cntTotal : (s.countPdo).cntTotal = s.cntTotal := rfl
@[simp] theorem State.countPdo_cntOther : (s.countPdo).cntOther = s.cntOther := rfl
@[simp] theorem State.countPdo_params : (s.countPdo).params = s.params := rfl
@[simp] theorem State.countPdo_env : (s.countPdo).env = s.env := rfl
@[simp] theorem State.countPdo_cntPdo : (s.countPdo).cntPdo = wrapInc s.params.cntW s.cntPdo := rfl

/-! #### `countOther` -/

@[simp] theorem State.countOther_mode : (s.countOther).mode = s.mode := rfl
@[simp] theorem State.countOther_role : (s.countOther).role = s.role := rfl
@[simp] theorem State.countOther_tickModel : (s.countOther).tickModel = s.tickModel := rfl
@[simp] theorem State.countOther_baseT : (s.countOther).baseT = s.baseT := rfl
@[simp] theorem State.countOther_baseC : (s.countOther).baseC = s.baseC := rfl
@[simp] theorem State.countOther_tel : (s.countOther).tel = s.tel := rfl
@[simp] theorem State.countOther_cmd : (s.countOther).cmd = s.cmd := rfl
@[simp] theorem State.countOther_diag : (s.countOther).diag = s.diag := rfl
@[simp] theorem State.countOther_tick : (s.countOther).tick = s.tick := rfl
@[simp] theorem State.countOther_cntTotal : (s.countOther).cntTotal = s.cntTotal := rfl
@[simp] theorem State.countOther_cntPdo : (s.countOther).cntPdo = s.cntPdo := rfl
@[simp] theorem State.countOther_params : (s.countOther).params = s.params := rfl
@[simp] theorem State.countOther_env : (s.countOther).env = s.env := rfl
@[simp] theorem State.countOther_cntOther : (s.countOther).cntOther = wrapInc s.params.cntW s.cntOther := rfl

/-! #### `clearPending` -/

@[simp] theorem State.clearPending_mode : (s.clearPending).mode = s.mode := rfl
@[simp] theorem State.clearPending_role : (s.clearPending).role = s.role := rfl
@[simp] theorem State.clearPending_tickModel : (s.clearPending).tickModel = s.tickModel := rfl
@[simp] theorem State.clearPending_baseT : (s.clearPending).baseT = s.baseT := rfl
@[simp] theorem State.clearPending_baseC : (s.clearPending).baseC = s.baseC := rfl
@[simp] theorem State.clearPending_tel : (s.clearPending).tel = s.tel := rfl
@[simp] theorem State.clearPending_cmd : (s.clearPending).cmd = s.cmd := rfl
@[simp] theorem State.clearPending_tick : (s.clearPending).tick = s.tick := rfl
@[simp] theorem State.clearPending_cntTotal : (s.clearPending).cntTotal = s.cntTotal := rfl
@[simp] theorem State.clearPending_cntPdo : (s.clearPending).cntPdo = s.cntPdo := rfl
@[simp] theorem State.clearPending_cntOther : (s.clearPending).cntOther = s.cntOther := rfl
@[simp] theorem State.clearPending_params : (s.clearPending).params = s.params := rfl
@[simp] theorem State.clearPending_env : (s.clearPending).env = s.env := rfl
@[simp] theorem State.clearPending_diag : (s.clearPending).diag = { s.diag with pending := false } := rfl

/-! #### `writeWord` -/

@[simp] theorem State.writeWord_mode (v : Word) (p : WordRef) : (s.writeWord v p).mode = s.mode := by cases p <;> rfl
@[simp] theorem State.writeWord_role (v : Word) (p : WordRef) : (s.writeWord v p).role = s.role := by cases p <;> rfl
@[simp] theorem State.writeWord_tickModel (v : Word) (p : WordRef) : (s.writeWord v p).tickModel = s.tickModel := by cases p <;> rfl
@[simp] theorem State.writeWord_baseT (v : Word) (p : WordRef) : (s.writeWord v p).baseT = s.baseT := by cases p <;> rfl
@[simp] theorem State.writeWord_baseC (v : Word) (p : WordRef) : (s.writeWord v p).baseC = s.baseC := by cases p <;> rfl
@[simp] theorem State.writeWord_diag (v : Word) (p : WordRef) : (s.writeWord v p).diag = s.diag := by cases p <;> rfl
@[simp] theorem State.writeWord_tick (v : Word) (p : WordRef) : (s.writeWord v p).tick = s.tick := by cases p <;> rfl
@[simp] theorem State.writeWord_cntTotal (v : Word) (p : WordRef) : (s.writeWord v p).cntTotal = s.cntTotal := by cases p <;> rfl
@[simp] theorem State.writeWord_cntPdo (v : Word) (p : WordRef) : (s.writeWord v p).cntPdo = s.cntPdo := by cases p <;> rfl
@[simp] theorem State.writeWord_cntOther (v : Word) (p : WordRef) : (s.writeWord v p).cntOther = s.cntOther := by cases p <;> rfl
@[simp] theorem State.writeWord_params (v : Word) (p : WordRef) : (s.writeWord v p).params = s.params := by cases p <;> rfl
@[simp] theorem State.writeWord_env (v : Word) (p : WordRef) : (s.writeWord v p).env = s.env := by cases p <;> rfl

/-! #### `writeRecord` -/

@[simp] theorem State.writeRecord_mode (i : Fin 15) (r : Record) : (s.writeRecord i r).mode = s.mode := by cases r <;> rfl
@[simp] theorem State.writeRecord_role (i : Fin 15) (r : Record) : (s.writeRecord i r).role = s.role := by cases r <;> rfl
@[simp] theorem State.writeRecord_tickModel (i : Fin 15) (r : Record) : (s.writeRecord i r).tickModel = s.tickModel := by cases r <;> rfl
@[simp] theorem State.writeRecord_baseT (i : Fin 15) (r : Record) : (s.writeRecord i r).baseT = s.baseT := by cases r <;> rfl
@[simp] theorem State.writeRecord_baseC (i : Fin 15) (r : Record) : (s.writeRecord i r).baseC = s.baseC := by cases r <;> rfl
@[simp] theorem State.writeRecord_diag (i : Fin 15) (r : Record) : (s.writeRecord i r).diag = s.diag := by cases r <;> rfl
@[simp] theorem State.writeRecord_tick (i : Fin 15) (r : Record) : (s.writeRecord i r).tick = s.tick := by cases r <;> rfl
@[simp] theorem State.writeRecord_cntTotal (i : Fin 15) (r : Record) : (s.writeRecord i r).cntTotal = s.cntTotal := by cases r <;> rfl
@[simp] theorem State.writeRecord_cntPdo (i : Fin 15) (r : Record) : (s.writeRecord i r).cntPdo = s.cntPdo := by cases r <;> rfl
@[simp] theorem State.writeRecord_cntOther (i : Fin 15) (r : Record) : (s.writeRecord i r).cntOther = s.cntOther := by cases r <;> rfl
@[simp] theorem State.writeRecord_params (i : Fin 15) (r : Record) : (s.writeRecord i r).params = s.params := by cases r <;> rfl
@[simp] theorem State.writeRecord_env (i : Fin 15) (r : Record) : (s.writeRecord i r).env = s.env := by cases r <;> rfl

/-! #### `txPush` -/

@[simp] theorem State.txPush_mode (g : TxFrame) : (s.txPush g).mode = s.mode := rfl
@[simp] theorem State.txPush_role (g : TxFrame) : (s.txPush g).role = s.role := rfl
@[simp] theorem State.txPush_tickModel (g : TxFrame) : (s.txPush g).tickModel = s.tickModel := rfl
@[simp] theorem State.txPush_baseT (g : TxFrame) : (s.txPush g).baseT = s.baseT := rfl
@[simp] theorem State.txPush_baseC (g : TxFrame) : (s.txPush g).baseC = s.baseC := rfl
@[simp] theorem State.txPush_tel (g : TxFrame) : (s.txPush g).tel = s.tel := rfl
@[simp] theorem State.txPush_cmd (g : TxFrame) : (s.txPush g).cmd = s.cmd := rfl
@[simp] theorem State.txPush_diag (g : TxFrame) : (s.txPush g).diag = s.diag := rfl
@[simp] theorem State.txPush_tick (g : TxFrame) : (s.txPush g).tick = s.tick := rfl
@[simp] theorem State.txPush_cntTotal (g : TxFrame) : (s.txPush g).cntTotal = s.cntTotal := rfl
@[simp] theorem State.txPush_cntPdo (g : TxFrame) : (s.txPush g).cntPdo = s.cntPdo := rfl
@[simp] theorem State.txPush_cntOther (g : TxFrame) : (s.txPush g).cntOther = s.cntOther := rfl
@[simp] theorem State.txPush_params (g : TxFrame) : (s.txPush g).params = s.params := rfl

/-! #### `filterInstall` -/

@[simp] theorem State.filterInstall_mode : (s.filterInstall).mode = s.mode := rfl
@[simp] theorem State.filterInstall_role : (s.filterInstall).role = s.role := rfl
@[simp] theorem State.filterInstall_tickModel : (s.filterInstall).tickModel = s.tickModel := rfl
@[simp] theorem State.filterInstall_baseT : (s.filterInstall).baseT = s.baseT := rfl
@[simp] theorem State.filterInstall_baseC : (s.filterInstall).baseC = s.baseC := rfl
@[simp] theorem State.filterInstall_tel : (s.filterInstall).tel = s.tel := rfl
@[simp] theorem State.filterInstall_cmd : (s.filterInstall).cmd = s.cmd := rfl
@[simp] theorem State.filterInstall_diag : (s.filterInstall).diag = s.diag := rfl
@[simp] theorem State.filterInstall_tick : (s.filterInstall).tick = s.tick := rfl
@[simp] theorem State.filterInstall_cntTotal : (s.filterInstall).cntTotal = s.cntTotal := rfl
@[simp] theorem State.filterInstall_cntPdo : (s.filterInstall).cntPdo = s.cntPdo := rfl
@[simp] theorem State.filterInstall_cntOther : (s.filterInstall).cntOther = s.cntOther := rfl
@[simp] theorem State.filterInstall_params : (s.filterInstall).params = s.params := rfl

/-! #### `present` -/

@[simp] theorem State.present_mode (x : Transfer) : (s.present x).mode = s.mode := rfl
@[simp] theorem State.present_role (x : Transfer) : (s.present x).role = s.role := rfl
@[simp] theorem State.present_tickModel (x : Transfer) : (s.present x).tickModel = s.tickModel := rfl
@[simp] theorem State.present_baseT (x : Transfer) : (s.present x).baseT = s.baseT := rfl
@[simp] theorem State.present_baseC (x : Transfer) : (s.present x).baseC = s.baseC := rfl
@[simp] theorem State.present_tel (x : Transfer) : (s.present x).tel = s.tel := rfl
@[simp] theorem State.present_cmd (x : Transfer) : (s.present x).cmd = s.cmd := rfl
@[simp] theorem State.present_diag (x : Transfer) : (s.present x).diag = s.diag := rfl
@[simp] theorem State.present_tick (x : Transfer) : (s.present x).tick = s.tick := rfl
@[simp] theorem State.present_cntTotal (x : Transfer) : (s.present x).cntTotal = s.cntTotal := rfl
@[simp] theorem State.present_cntPdo (x : Transfer) : (s.present x).cntPdo = s.cntPdo := rfl
@[simp] theorem State.present_cntOther (x : Transfer) : (s.present x).cntOther = s.cntOther := rfl
@[simp] theorem State.present_params (x : Transfer) : (s.present x).params = s.params := rfl
@[simp] theorem State.present_env (x : Transfer) : (s.present x).env = { s.env with inbox := x :: s.env.inbox } := rfl

/-! #### `latch` -/

@[simp] theorem State.latch_tel (cfg : RoleConfig) : (s.latch cfg).tel = s.tel := rfl
@[simp] theorem State.latch_cmd (cfg : RoleConfig) : (s.latch cfg).cmd = s.cmd := rfl
@[simp] theorem State.latch_diag (cfg : RoleConfig) : (s.latch cfg).diag = s.diag := rfl
@[simp] theorem State.latch_tick (cfg : RoleConfig) : (s.latch cfg).tick = s.tick := rfl
@[simp] theorem State.latch_cntTotal (cfg : RoleConfig) : (s.latch cfg).cntTotal = s.cntTotal := rfl
@[simp] theorem State.latch_cntPdo (cfg : RoleConfig) : (s.latch cfg).cntPdo = s.cntPdo := rfl
@[simp] theorem State.latch_cntOther (cfg : RoleConfig) : (s.latch cfg).cntOther = s.cntOther := rfl
@[simp] theorem State.latch_params (cfg : RoleConfig) : (s.latch cfg).params = s.params := rfl
@[simp] theorem State.latch_env (cfg : RoleConfig) : (s.latch cfg).env = s.env := rfl
@[simp] theorem State.latch_mode (cfg : RoleConfig) : (s.latch cfg).mode = .running := rfl
@[simp] theorem State.latch_role (cfg : RoleConfig) : (s.latch cfg).role = cfg.role := rfl
@[simp] theorem State.latch_tickModel (cfg : RoleConfig) : (s.latch cfg).tickModel = cfg.tickModel := rfl
@[simp] theorem State.latch_baseT (cfg : RoleConfig) : (s.latch cfg).baseT = cfg.baseT := rfl
@[simp] theorem State.latch_baseC (cfg : RoleConfig) : (s.latch cfg).baseC = cfg.baseC := rfl

/-! #### `fail` -/

@[simp] theorem State.fail_role : (s.fail).role = s.role := rfl
@[simp] theorem State.fail_tickModel : (s.fail).tickModel = s.tickModel := rfl
@[simp] theorem State.fail_baseT : (s.fail).baseT = s.baseT := rfl
@[simp] theorem State.fail_baseC : (s.fail).baseC = s.baseC := rfl
@[simp] theorem State.fail_tel : (s.fail).tel = s.tel := rfl
@[simp] theorem State.fail_cmd : (s.fail).cmd = s.cmd := rfl
@[simp] theorem State.fail_diag : (s.fail).diag = s.diag := rfl
@[simp] theorem State.fail_tick : (s.fail).tick = s.tick := rfl
@[simp] theorem State.fail_cntTotal : (s.fail).cntTotal = s.cntTotal := rfl
@[simp] theorem State.fail_cntPdo : (s.fail).cntPdo = s.cntPdo := rfl
@[simp] theorem State.fail_cntOther : (s.fail).cntOther = s.cntOther := rfl
@[simp] theorem State.fail_params : (s.fail).params = s.params := rfl
@[simp] theorem State.fail_env : (s.fail).env = s.env := rfl
@[simp] theorem State.fail_mode : (s.fail).mode = .failed := rfl

/-! #### `rxErr` -/

@[simp] theorem State.rxErr_mode : (s.rxErr).mode = s.mode := rfl
@[simp] theorem State.rxErr_role : (s.rxErr).role = s.role := rfl
@[simp] theorem State.rxErr_tickModel : (s.rxErr).tickModel = s.tickModel := rfl
@[simp] theorem State.rxErr_baseT : (s.rxErr).baseT = s.baseT := rfl
@[simp] theorem State.rxErr_baseC : (s.rxErr).baseC = s.baseC := rfl
@[simp] theorem State.rxErr_tel : (s.rxErr).tel = s.tel := rfl
@[simp] theorem State.rxErr_cmd : (s.rxErr).cmd = s.cmd := rfl
@[simp] theorem State.rxErr_diag : (s.rxErr).diag = s.diag := rfl
@[simp] theorem State.rxErr_tick : (s.rxErr).tick = s.tick := rfl
@[simp] theorem State.rxErr_cntTotal : (s.rxErr).cntTotal = s.cntTotal := rfl
@[simp] theorem State.rxErr_cntPdo : (s.rxErr).cntPdo = s.cntPdo := rfl
@[simp] theorem State.rxErr_cntOther : (s.rxErr).cntOther = s.cntOther := rfl
@[simp] theorem State.rxErr_params : (s.rxErr).params = s.params := rfl
@[simp] theorem State.rxErr_env : (s.rxErr).env = s.env := rfl

/-! #### `send` -/

@[simp] theorem State.send_mode (k : FrameKind) : (s.send k).mode = s.mode := by unfold State.send; cases s.txAnswer <;> rfl
@[simp] theorem State.send_role (k : FrameKind) : (s.send k).role = s.role := by unfold State.send; cases s.txAnswer <;> rfl
@[simp] theorem State.send_tickModel (k : FrameKind) : (s.send k).tickModel = s.tickModel := by unfold State.send; cases s.txAnswer <;> rfl
@[simp] theorem State.send_baseT (k : FrameKind) : (s.send k).baseT = s.baseT := by unfold State.send; cases s.txAnswer <;> rfl
@[simp] theorem State.send_baseC (k : FrameKind) : (s.send k).baseC = s.baseC := by unfold State.send; cases s.txAnswer <;> rfl
@[simp] theorem State.send_tel (k : FrameKind) : (s.send k).tel = s.tel := by unfold State.send; cases s.txAnswer <;> rfl
@[simp] theorem State.send_cmd (k : FrameKind) : (s.send k).cmd = s.cmd := by unfold State.send; cases s.txAnswer <;> rfl
@[simp] theorem State.send_diag (k : FrameKind) : (s.send k).diag = s.diag := by unfold State.send; cases s.txAnswer <;> rfl
@[simp] theorem State.send_tick (k : FrameKind) : (s.send k).tick = s.tick := by unfold State.send; cases s.txAnswer <;> rfl
@[simp] theorem State.send_cntTotal (k : FrameKind) : (s.send k).cntTotal = s.cntTotal := by unfold State.send; cases s.txAnswer <;> rfl
@[simp] theorem State.send_cntPdo (k : FrameKind) : (s.send k).cntPdo = s.cntPdo := by unfold State.send; cases s.txAnswer <;> rfl
@[simp] theorem State.send_cntOther (k : FrameKind) : (s.send k).cntOther = s.cntOther := by unfold State.send; cases s.txAnswer <;> rfl
@[simp] theorem State.send_params (k : FrameKind) : (s.send k).params = s.params := by unfold State.send; cases s.txAnswer <;> rfl

/-! #### `offer` -/

@[simp] theorem State.offer_mode (b : Bool) (g : TxFrame) : (s.offer b g).mode = s.mode := by unfold State.offer; split <;> rfl
@[simp] theorem State.offer_role (b : Bool) (g : TxFrame) : (s.offer b g).role = s.role := by unfold State.offer; split <;> rfl
@[simp] theorem State.offer_tickModel (b : Bool) (g : TxFrame) : (s.offer b g).tickModel = s.tickModel := by unfold State.offer; split <;> rfl
@[simp] theorem State.offer_baseT (b : Bool) (g : TxFrame) : (s.offer b g).baseT = s.baseT := by unfold State.offer; split <;> rfl
@[simp] theorem State.offer_baseC (b : Bool) (g : TxFrame) : (s.offer b g).baseC = s.baseC := by unfold State.offer; split <;> rfl
@[simp] theorem State.offer_tel (b : Bool) (g : TxFrame) : (s.offer b g).tel = s.tel := by unfold State.offer; split <;> rfl
@[simp] theorem State.offer_cmd (b : Bool) (g : TxFrame) : (s.offer b g).cmd = s.cmd := by unfold State.offer; split <;> rfl
@[simp] theorem State.offer_diag (b : Bool) (g : TxFrame) : (s.offer b g).diag = s.diag := by unfold State.offer; split <;> rfl
@[simp] theorem State.offer_tick (b : Bool) (g : TxFrame) : (s.offer b g).tick = s.tick := by unfold State.offer; split <;> rfl
@[simp] theorem State.offer_cntTotal (b : Bool) (g : TxFrame) : (s.offer b g).cntTotal = s.cntTotal := by unfold State.offer; split <;> rfl
@[simp] theorem State.offer_cntPdo (b : Bool) (g : TxFrame) : (s.offer b g).cntPdo = s.cntPdo := by unfold State.offer; split <;> rfl
@[simp] theorem State.offer_cntOther (b : Bool) (g : TxFrame) : (s.offer b g).cntOther = s.cntOther := by unfold State.offer; split <;> rfl
@[simp] theorem State.offer_params (b : Bool) (g : TxFrame) : (s.offer b g).params = s.params := by unfold State.offer; split <;> rfl

/-! #### `resetBlock` -/

@[simp] theorem State.resetBlock_params : (s.resetBlock).params = s.params := rfl
@[simp] theorem State.resetBlock_env : (s.resetBlock).env = s.env := rfl
@[simp] theorem State.resetBlock_mode : (s.resetBlock).mode = .unconfigured := rfl

@[simp] theorem State.countTick_tick : s.countTick.tick =
    (match s.tickModel with | .counting => wrapInc s.params.tickW s.tick | .pending => 1) := by
  cases h : s.tickModel <;> simp [State.countTick, h]

@[simp] theorem State.writeWord_tel_tel (v : Word) (i : Fin 15) (k : Fin 10) :
    (s.writeWord v (.tel i k)).tel = s.tel.set i ⟨(s.tel[i]).w.set k v⟩ := rfl
@[simp] theorem State.writeWord_tel_cmd (v : Word) (i : Fin 15) (k : Fin 10) :
    (s.writeWord v (.tel i k)).cmd = s.cmd := rfl
@[simp] theorem State.writeWord_cmd_cmd (v : Word) (i : Fin 15) (k : Fin 6) :
    (s.writeWord v (.cmd i k)).cmd = s.cmd.set i ⟨(s.cmd[i]).w.set k v⟩ := rfl
@[simp] theorem State.writeWord_cmd_tel (v : Word) (i : Fin 15) (k : Fin 6) :
    (s.writeWord v (.cmd i k)).tel = s.tel := rfl

@[simp] theorem State.writeRecord_tel_tel (i : Fin 15) (r : TelRecord) :
    (s.writeRecord i (.tel r)).tel = s.tel.set i r := rfl
@[simp] theorem State.writeRecord_tel_cmd (i : Fin 15) (r : TelRecord) : (s.writeRecord i (.tel r)).cmd = s.cmd := rfl
@[simp] theorem State.writeRecord_cmd_cmd (i : Fin 15) (r : CmdRecord) :
    (s.writeRecord i (.cmd r)).cmd = s.cmd.set i r := rfl
@[simp] theorem State.writeRecord_cmd_tel (i : Fin 15) (r : CmdRecord) : (s.writeRecord i (.cmd r)).tel = s.tel := rfl

/-- What `TxPush` does to the environment (R46). -/
@[simp] theorem State.txPush_env (g : TxFrame) : (s.txPush g).env = { s.env with
    txAnswers := s.env.txAnswers.tail
    txPushes := s.env.txPushes + 1
    sent := if s.txAnswer then s.env.sent ++ [g] else s.env.sent } := rfl

/-- What `FilterInstall()` does to the environment (R47). -/
@[simp] theorem State.filterInstall_env : s.filterInstall.env = { s.env with
    fltAnswers := s.env.fltAnswers.tail
    fltRequests := s.env.fltRequests + 1 } := rfl

end Updates

/-- `RESET` leaves the parameters and the environment, and nothing else, to the state before it. -/
theorem State.resetBlock_eq (s : State) : s.resetBlock = .resetWith s.params s.env := rfl

/-- Resetting the state after reset changes nothing. -/
theorem State.reset_resetBlock : State.reset.resetBlock = State.reset := rfl

end Sys2Proof.Machine
end

