-- ==== Sys2Proof/Laws/Ops.lean ====
section
/-! SUPPORT. For each shared operation, once, everything it can do: the lemmas the proofs cite instead of unfolding it. -/

namespace Sys2Proof.Machine
open Sys2Proof.Config

/-! ### Operands -/

theorem slotOf_eq_some {idx : BitVec 4} {i : Fin 15} : slotOf idx = some i ↔ idx.toNat = i.val := by
  have := i.isLt
  simp only [slotOf, Option.dite_none_right_eq_some, Option.some.injEq, Fin.ext_iff]
  exact ⟨fun ⟨_, h⟩ => h, fun h => ⟨by omega, h⟩⟩

theorem slotOf_eq_none {idx : BitVec 4} : slotOf idx = none ↔ 15 ≤ idx.toNat := by
  simp [slotOf]

@[simp] theorem slotOf_of_lt {idx : BitVec 4} (h : idx.toNat < 15) : slotOf idx = some ⟨idx.toNat, h⟩ := by
  simp [slotOf, h]

@[simp] theorem telField_of_lt {fld : BitVec 4} (h : fld.toNat < 10) : telField fld = some ⟨fld.toNat, h⟩ := by
  simp [telField, h]

@[simp] theorem cmdField_of_lt {fld : BitVec 4} (h : fld.toNat < 6) : cmdField fld = some ⟨fld.toNat, h⟩ := by
  simp [cmdField, h]

/-- A word reference is refused exactly for an operand out of range (R105). -/
theorem wordRef_eq_none {arr : Arr} {idx fld : BitVec 4} : wordRef arr idx fld = none ↔
    15 ≤ idx.toNat ∨ (arr = .tel ∧ 10 ≤ fld.toNat) ∨ (arr = .cmd ∧ 6 ≤ fld.toNat) := by
  by_cases h : idx.toNat < 15
  · have h' : ¬ 15 ≤ idx.toNat := by omega
    cases arr <;> simp [wordRef, h, h', telField, cmdField]
  · have h' : 15 ≤ idx.toNat := by omega
    simp [wordRef, slotOf_eq_none.2 h', h']

/-- A word reference lies in the array the request names. -/
theorem wordRef_space {arr : Arr} {idx fld : BitVec 4} {p : WordRef} (h : wordRef arr idx fld = some p) :
    p.space = arr := by
  unfold wordRef at h
  split at h
  · cases h
  · cases arr <;> simp only [Option.map_eq_some_iff] at h <;> obtain ⟨k, _, rfl⟩ := h <;> rfl

/-! ### The router -/

/-- Everything `classify` can answer (R151). -/
theorem classify_cases (bt bc id : Ident) :
    (∃ k : Fin 15, classify bt bc id = .tel k ∧ id.toNat = bt.toNat + k) ∨
    (∃ k : Fin 15, classify bt bc id = .cmd k ∧ id.toNat = bc.toNat + k ∧
      ¬ (bt.toNat ≤ id.toNat ∧ id.toNat ≤ bt.toNat + 14)) ∨
    (classify bt bc id = .unrec ∧ ¬ (bt.toNat ≤ id.toNat ∧ id.toNat ≤ bt.toNat + 14) ∧
      ¬ (bc.toNat ≤ id.toNat ∧ id.toNat ≤ bc.toNat + 14)) := by
  unfold classify
  split
  · exact .inl ⟨_, rfl, by simp only; omega⟩
  · split
    · exact .inr (.inl ⟨_, rfl, by simp only; omega, ‹_›⟩)
    · exact .inr (.inr ⟨rfl, ‹_›, ‹_›⟩)

theorem cfgValid_iff {bt bc : Ident} : cfgValid bt bc = true ↔
    bt.toNat + 14 ≤ 0x7FF ∧ bc.toNat + 14 ≤ 0x7FF ∧
      (bt.toNat + 15 ≤ bc.toNat ∨ bc.toNat + 15 ≤ bt.toNat) := by
  simp [cfgValid, and_assoc]

/-! ### The codec -/

@[simp] theorem bytes32_length (e : Endian) (w : Word) : (bytes32 e w).length = 4 := by cases e <;> rfl

@[simp] theorem encTel_length (e : Endian) (r : TelRecord) : (encTel e r).length = 40 := by
  simp [encTel, List.length_flatMap]

@[simp] theorem encCmd_length (e : Endian) (r : CmdRecord) : (encCmd e r).length = 24 := by
  simp [encCmd, List.length_flatMap]

@[simp] theorem zeros_length (n : Nat) : (zeros n).length = n := by simp [zeros]

theorem decodeFrame_telCat (e : Endian) (b : List Byte) :
    decodeFrame e .telCat b = if 40 ≤ b.length then some (.tel (decTel e (b.take 40))) else none := by
  by_cases h : b.length < 40
  · simp [decodeFrame, recSize, h]
  · simp [decodeFrame, recSize, h, Nat.le_of_not_lt h]

theorem decodeFrame_cmdCat (e : Endian) (b : List Byte) :
    decodeFrame e .cmdCat b = if 24 ≤ b.length then some (.cmd (decCmd e (b.take 24))) else none := by
  by_cases h : b.length < 24
  · simp [decodeFrame, recSize, h]
  · simp [decodeFrame, recSize, h, Nat.le_of_not_lt h]

theorem lenOf_le (fdf : Bool) (dlc : BitVec 4) : lenOf fdf dlc ≤ 64 := by
  unfold lenOf; split
  · omega
  · split
    · split <;> omega
    · omega

/-- The block's three length codes are those of its three lengths (R94). -/
theorem dlcOf_lengths : dlcOf 24 = some 12 ∧ dlcOf 32 = some 13 ∧ dlcOf 48 = some 14 := by decide

/-- `DlcOf` is the inverse of `LenOf(1, ·)` (R94). -/
theorem dlcOf_lenOf (dlc : BitVec 4) : dlcOf (lenOf true dlc) = some dlc := by
  revert dlc; decide

/-! ### The receive path -/

/-- A recognized frame is of this role's inbound category (R27, R169). -/
theorem recognize_category {s : State} {f : RxFrame} {i : Fin 15} {r : Record} (h : recognize s f = some (i, r)) :
    (s.role = .hub ∧ ∃ r', r = .tel r') ∨ (s.role = .sat ∧ ∃ r', r = .cmd r') := by
  unfold recognize at h
  split at h
  · cases h
  · cases hr : s.role <;> simp [hr, inbound, decodeFrame_telCat] at h
    obtain ⟨_, _, rfl⟩ := h
    exact .inl ⟨rfl, _, rfl⟩
  · cases hr : s.role <;> simp [hr, inbound, decodeFrame_cmdCat] at h
    obtain ⟨_, _, rfl⟩ := h
    exact .inr ⟨rfl, _, rfl⟩

/-- The path a frame takes depends only on the role, the bases and the byte order (R169). -/
theorem recognize_congr {s t : State} (f : RxFrame) (hr : t.role = s.role) (ht : t.baseT = s.baseT)
    (hc : t.baseC = s.baseC) (hp : t.params = s.params) : recognize t f = recognize s f := by
  unfold recognize; rw [hr, ht, hc, hp]

/-- Everything a frame can do (R167): written into the owned array, or kept as the snapshot. -/
theorem receive_cases (s : State) (f : RxFrame) :
    (∃ i r, recognize s f = some (i, .tel r) ∧ s.role = .hub ∧ s.receive f = { s with
      cntTotal := wrapInc s.params.cntW s.cntTotal, tel := s.tel.set i r
      cntPdo := wrapInc s.params.cntW s.cntPdo }) ∨
    (∃ i r, recognize s f = some (i, .cmd r) ∧ s.role = .sat ∧ s.receive f = { s with
      cntTotal := wrapInc s.params.cntW s.cntTotal, cmd := s.cmd.set i r
      cntPdo := wrapInc s.params.cntW s.cntPdo }) ∨
    (recognize s f = none ∧ s.receive f = { s with
      cntTotal := wrapInc s.params.cntW s.cntTotal, diag := snapshot f
      cntOther := wrapInc s.params.cntW s.cntOther }) := by
  unfold State.receive
  split
  · rename_i i r h
    obtain ⟨hr, r', rfl⟩ | ⟨hr, r', rfl⟩ := recognize_category h
    · exact .inl ⟨i, r', h, hr, rfl⟩
    · exact .inr (.inl ⟨i, r', h, hr, rfl⟩)
  · exact .inr (.inr ⟨‹_›, rfl⟩)

section Receive
variable (s : State) (f : RxFrame)

/-- What a frame leaves as it was (R167): the mode, the configuration, the tick, the parameters, the environment. -/
theorem receive_frame : (s.receive f).mode = s.mode ∧ (s.receive f).role = s.role ∧
    (s.receive f).tickModel = s.tickModel ∧ (s.receive f).baseT = s.baseT ∧ (s.receive f).baseC = s.baseC ∧
    (s.receive f).tick = s.tick ∧ (s.receive f).params = s.params ∧ (s.receive f).env = s.env := by
  obtain ⟨_, _, _, _, h⟩ | ⟨_, _, _, _, h⟩ | ⟨_, h⟩ := receive_cases s f <;> simp [h]

@[simp] theorem rxFrame_mode : (s.rxFrame f).mode = s.mode := by
  unfold State.rxFrame; split <;> simp [receive_frame]
@[simp] theorem rxFrame_role : (s.rxFrame f).role = s.role := by
  unfold State.rxFrame; split <;> simp [receive_frame]
@[simp] theorem rxFrame_tickModel : (s.rxFrame f).tickModel = s.tickModel := by
  unfold State.rxFrame; split <;> simp [receive_frame]
@[simp] theorem rxFrame_baseT : (s.rxFrame f).baseT = s.baseT := by
  unfold State.rxFrame; split <;> simp [receive_frame]
@[simp] theorem rxFrame_baseC : (s.rxFrame f).baseC = s.baseC := by
  unfold State.rxFrame; split <;> simp [receive_frame]
@[simp] theorem rxFrame_tick : (s.rxFrame f).tick = s.tick := by
  unfold State.rxFrame; split <;> simp [receive_frame]
@[simp] theorem rxFrame_params : (s.rxFrame f).params = s.params := by
  unfold State.rxFrame; split <;> simp [receive_frame]
@[simp] theorem rxFrame_env : (s.rxFrame f).env = s.env := by
  unfold State.rxFrame; split <;> simp [receive_frame]

end Receive

/-- A frame's effect does not depend on the environment: it commutes with any change of it. -/
theorem receive_withEnv (s : State) (f : RxFrame) (env : Env) :
    ({ s with env := env } : State).receive f = { s.receive f with env := env } := by
  have hr : recognize { s with env := env } f = recognize s f := rfl
  obtain ⟨i, r, h, _, h'⟩ | ⟨i, r, h, _, h'⟩ | ⟨h, h'⟩ := receive_cases s f <;>
    · rw [h']
      simp only [State.receive, hr, h]
      rfl

/-- As `receive_withEnv`, with the gate of R165. -/
theorem rxFrame_withEnv (s : State) (f : RxFrame) (env : Env) :
    ({ s with env := env } : State).rxFrame f = { s.rxFrame f with env := env } := by
  by_cases hm : s.mode = .running
  · rw [show s.rxFrame f = s.receive f from if_pos hm, ← receive_withEnv]
    exact if_pos hm
  · rw [show s.rxFrame f = s from if_neg hm]
    exact if_neg hm

/-- The frames an activation drains: those before the first `Empty` or `Err` of the listed answers (R166, R173). -/
def drained : List RxAnswer → List RxFrame
  | [] => []
  | .empty :: _ => []
  | .err :: _ => []
  | .frame f :: rest => f :: drained rest

/-- The answers an activation leaves for the next one. -/
def undrained : List RxAnswer → List RxAnswer
  | [] => []
  | .empty :: rest => rest
  | .err :: rest => rest
  | .frame _ :: rest => undrained rest

/-- An activation is its frames, one after another, and leaves the answers behind the one it ended on (R166). -/
theorem drain_eq_foldl (as : List RxAnswer) (s : State) :
    drain as s = (drained as).foldl State.rxFrame { s with env := { s.env with rxAnswers := undrained as } } := by
  induction as generalizing s with
  | nil => rfl
  | cons a rest ih =>
    cases a with
    | empty => rfl
    | err => rfl
    | frame f =>
      have e : ({ s.rxFrame f with env := { (s.rxFrame f).env with rxAnswers := undrained rest } } : State) =
          ({ s with env := { s.env with rxAnswers := undrained rest } } : State).rxFrame f := by
        rw [rxFrame_env]
        exact (rxFrame_withEnv s f _).symm
      rw [drain, ih, e]
      rfl

/-- What any number of frames leave as it was. -/
theorem foldl_rxFrame_frame (fs : List RxFrame) (s : State) :
    let t := fs.foldl State.rxFrame s
    t.mode = s.mode ∧ t.role = s.role ∧ t.tickModel = s.tickModel ∧ t.baseT = s.baseT ∧ t.baseC = s.baseC ∧
      t.tick = s.tick ∧ t.params = s.params ∧ t.env = s.env := by
  induction fs generalizing s with
  | nil => simp
  | cons f fs ih => simpa using ih (s.rxFrame f)

/-! ### The transmit side -/

/-- The common tail of the sends (R211): one push, and the controller's answer as the response. -/
theorem send_eq (s : State) (k : FrameKind) : s.send k = { s with env := { s.env with
    txAnswers := s.env.txAnswers.tail
    txPushes := s.env.txPushes + 1
    sent := if s.txAnswer then s.env.sent ++ [buildFrame s.params s.baseT s.baseC k] else s.env.sent
    responses := s.env.responses ++ [if s.txAnswer then ⟨true, .none, 0, none⟩ else ⟨false, .txFail, 0, none⟩] } } := by
  unfold State.send State.txPush State.accept State.refuse State.respond
  cases s.txAnswer <;> rfl

/-- Everything the offer of a frame can do (R210, R211; log entry 6). -/
theorem offer_cases (s : State) (b : Bool) (g : TxFrame) :
    (s.mode = .running ∧ b = true ∧ s.offer b g = s.txPush g) ∨ s.offer b g = s := by
  unfold State.offer
  split
  · exact .inl ⟨(‹_ ∧ _›).1, (‹_ ∧ _›).2, rfl⟩
  · exact .inr rfl

/-- When a hub could have built the frame itself (R206, R207). -/
theorem buildsCmd_iff {s : State} {g : TxFrame} : s.buildsCmd g = true ↔
    ∃ i : Fin 15, g = buildCmd s.params s.baseC i (decCmd s.params.endian g.data) := decide_eq_true_iff

/-- When a satellite could have built the frame itself (R208). -/
theorem buildsTel_iff {s : State} {g : TxFrame} : s.buildsTel g = true ↔
    ∃ i : Fin 15, g = buildTel s.params s.baseT i (decTel s.params.endian g.data) := decide_eq_true_iff

/-- Everything `TXD.CMD` can do: a hub pushes a frame that `BuildCmd` gives, or nothing happens (R206, R207). -/
theorem execTxdCmd_cases (id : Ident) (data : List Byte) (s : State) :
    (∃ (i : Fin 15) (r : CmdRecord), s.mode = .running ∧ s.role = .hub ∧
      txFrame id 12 data = buildCmd s.params s.baseC i r ∧
      execTxdCmd id data s = .next (s.txPush (buildCmd s.params s.baseC i r))) ∨
    execTxdCmd id data s = .next s := by
  unfold execTxdCmd
  obtain ⟨hm, hb, h⟩ | h := offer_cases s (s.role = .hub ∧ s.buildsCmd (txFrame id 12 data)) (txFrame id 12 data)
  · simp only [decide_eq_true_eq, buildsCmd_iff] at hb
    obtain ⟨hr, i, hg⟩ := hb
    exact .inl ⟨i, _, hm, hr, hg, by rw [h, ← hg]⟩
  · exact .inr (congrArg _ h)

/-- Everything `TXD.TEL` can do: a satellite pushes a frame that `BuildTel` gives, or nothing happens (R208). -/
theorem execTxdTel_cases (id : Ident) (data : List Byte) (s : State) :
    (∃ (i : Fin 15) (r : TelRecord), s.mode = .running ∧ s.role = .sat ∧
      txFrame id 14 data = buildTel s.params s.baseT i r ∧
      execTxdTel id data s = .next (s.txPush (buildTel s.params s.baseT i r))) ∨
    execTxdTel id data s = .next s := by
  unfold execTxdTel
  obtain ⟨hm, hb, h⟩ | h := offer_cases s (s.role = .sat ∧ s.buildsTel (txFrame id 14 data)) (txFrame id 14 data)
  · simp only [decide_eq_true_eq, buildsTel_iff] at hb
    obtain ⟨hr, i, hg⟩ := hb
    exact .inl ⟨i, _, hm, hr, hg, by rw [h, ← hg]⟩
  · exact .inr (congrArg _ h)

/-! ### Sequences -/

@[simp] theorem execAll_nil (s : State) : execAll [] s = .next s := rfl

theorem execAll_cons_next {i : Instr} {rest : List Instr} {s t : State} (h : exec i s = .next t) :
    execAll (i :: rest) s = execAll rest t := by
  simp [execAll, h]

theorem execAll_append_next {as bs : List Instr} {s t : State} (h : execAll as s = .next t) :
    execAll (as ++ bs) s = execAll bs t := by
  induction as generalizing s with
  | nil => cases h; rfl
  | cons i rest ih =>
    simp only [execAll, List.cons_append] at h ⊢
    split at h
    · exact ih h
    · cases h
    · cases h

/-- A sequence of received frames is their fold. -/
theorem execAll_rxFrames (fs : List RxFrame) (s : State) :
    execAll (fs.map Instr.rxFrame) s = .next (fs.foldl State.rxFrame s) := by
  induction fs generalizing s with
  | nil => rfl
  | cons f fs ih => simpa [execAll, exec, execRxFrame] using ih (s.rxFrame f)

end Sys2Proof.Machine
end

