-- ==== Sys2Proof/Tests/Slice0.lean ====
section
/-! SUPPORT. Our own tests: every row's encoding written out and decoded, an ill-formed term for each check, a few vectors
of spec/95_test_vectors.md, and for every statement with hypotheses a state and operands that meet them. Expected values
are the spec's own vectors (their section in the comment) or worked out by hand from the named rule. -/

namespace Sys2Proof.Tests
open Sys2Proof Sys2Proof.Machine Sys2Proof.Config

/-! ### Small states -/

/-- The state a meaning leaves; the tests look at its fields. -/
def after : Host.Outcome State Fault Refusal → State
  | .next t => t
  | .fault _ => State.reset
  | .refused _ => State.reset

/-- "hub" of 95_test_vectors.md: `INIT(0x00600800)` was accepted. The controller will accept two frames. -/
def hub : State := { State.reset with
  mode := .running, baseT := 0x200, baseC := 0x300, env := { Env.quiet with txAnswers := [true, true] } }

/-- "satellite": `INIT(0x00600803)` was accepted. -/
def sat : State := { hub with role := .sat, tickModel := .pending }

/-- A block whose `INIT` failed. -/
def failed : State := { State.reset with mode := .failed }

/-- The latest response. -/
def lastResponse (s : State) : Option Response := s.env.responses.getLast?

/-- The bytes 01, 00, 00, 00 repeated: `n` words of value 1, little-endian. -/
def ones (n : Nat) : List Byte := (List.replicate n [1, 0, 0, 0]).flatten

/-! ### Decoding: one word per row, written out from R91, R92, R100, R101 (95_test_vectors.md 2.1 to 2.3) -/

theorem test_decode_nop : decode (.host 0x00000000 0) = .ok .nop := rfl
theorem test_decode_init : decode (.host 0x10000000 0xFF600803) = .ok (.init ⟨.sat, .pending, 0x200, 0x300⟩) := rfl
theorem test_decode_consumeTicks : decode (.host 0x20000000 0) = .ok .consumeTicks := rfl
theorem test_decode_getDiag : decode (.host 0x30000000 0) = .ok .getDiag := rfl
theorem test_decode_sendCmd : decode (.host 0x43800000 0) = .ok (.sendCmd 7) := rfl
theorem test_decode_sendTel : decode (.host 0x52800000 0) = .ok (.sendTel 5) := rfl
theorem test_decode_sendKeepalive : decode (.host 0x60000123 0) = .ok (.sendKeepalive 0x123) := rfl
theorem test_decode_tblRead : decode (.host 0x71A00000 0) = .ok (.tblRead .tel 3 4) := rfl
theorem test_decode_tblRead_cmd : decode (.host 0x7B900000 0) = .ok (.tblRead .cmd 7 2) := rfl
theorem test_decode_tblWrite : decode (.host 0x8BA80000 9) = .ok (.tblWrite .cmd 7 5 9) := rfl
theorem test_decode_tblWrite_tel : decode (.host 0x83C80000 1) = .ok (.tblWrite .tel 7 9 1) := rfl
theorem test_decode_rdCsr : decode (.host 0x90000005 0) = .ok (.rdCsr 5) := rfl
theorem test_decode_reservedA : decode (.host 0xA0000000 0) = .ok .reservedA := rfl
theorem test_decode_reservedB : decode (.host 0xB0000000 0) = .ok .reservedB := rfl
theorem test_decode_reservedC : decode (.host 0xC0000000 0) = .ok .reservedC := rfl
theorem test_decode_reservedD : decode (.host 0xD0000000 0) = .ok .reservedD := rfl
theorem test_decode_reservedE : decode (.host 0xE0000000 0) = .ok .reservedE := rfl
theorem test_decode_reservedF : decode (.host 0xFFFFFFFF 0) = .ok .reservedF := rfl
theorem test_decode_reserved_bits_ignored : decode (.host 0x4387F800 0) = .ok (.sendCmd 7) := rfl
theorem test_decode_tick : decode .tickIrq = .ok .tick := rfl
theorem test_decode_rxAct : decode .rxIrq = .ok .rxAct := rfl
theorem test_decode_rxFrame : decode (.rxFrame 0x000012FF [0xAA, 0xBB]) =
    .ok (.rxFrame ⟨0x2FF, 2, false, false, [0xAA, 0xBB]⟩) := rfl
theorem test_decode_rxErr : decode .rxErr = .ok .rxErr := rfl
theorem test_decode_reset : decode .rst = .ok .reset := rfl
theorem test_decode_rxdTel : decode (.rxd 0x0000FA0E (ones 16)) =
    .ok (.rxdTel ⟨0x20E, 15, true, false, ones 16⟩) := rfl
theorem test_decode_rxdCmd : decode (.rxd 0x0001DB03 (ones 5)) = .ok (.rxdCmd ⟨0x303, 11, true, true, ones 5⟩) := rfl
theorem test_decode_rxdUnrec : decode (.rxd 0x0001F20F (ones 12)) =
    .ok (.rxdUnrec ⟨0x20F, 14, true, true, ones 12⟩) := rfl
theorem test_decode_txdCmd : decode (.txd 0x0001E307 (ones 6)) = .ok (.txdCmd 0x307 (ones 6)) := rfl
theorem test_decode_txdKa : decode (.txd 0x0001E923 (zeros 32)) = .ok (.txdKa 0x123) := rfl
theorem test_decode_txdTel : decode (.txd 0x0001F202 (ones 10 ++ zeros 8)) =
    .ok (.txdTel 0x202 (ones 10 ++ zeros 8)) := rfl

/-! ### What the decoder rejects, by name (R91, R92, R97, R99) -/

theorem test_reject_rx_reserved_bits : decode (.rxFrame 0x000212FF [0xAA, 0xBB]) = .error .rxHeaderReserved := rfl
theorem test_reject_rx_length : decode (.rxd 0x000012FF [0xAA]) = .error .rxPayloadLength := rfl
theorem test_reject_tx_header : decode (.txd 0x0003E307 (zeros 24)) = .error .txHeader := rfl
theorem test_reject_tx_length : decode (.txd 0x0001E307 (zeros 23)) = .error .txPayloadLength := rfl
theorem test_reject_tx_padding : decode (.txd 0x0001F202 (ones 12)) = .error .txPadding := rfl
theorem test_reject_keepalive_data : decode (.txd 0x0001E923 (ones 8)) = .error .txPadding := rfl

/-! ### WellFormed refuses an ill-formed term for each of its checks -/

theorem test_illformed_rxFrame_length : Instr.wellFormed (.rxFrame ⟨0x205, 8, false, false, []⟩) = false := by decide
theorem test_illformed_rxdTel_length : Instr.wellFormed (.rxdTel ⟨0x205, 8, false, false, []⟩) = false := by decide
theorem test_illformed_rxdTel_class : Instr.wellFormed (.rxdTel ⟨0x20F, 0, false, false, []⟩) = false := by decide
theorem test_illformed_rxdCmd_length : Instr.wellFormed (.rxdCmd ⟨0x300, 1, false, false, []⟩) = false := by decide
theorem test_illformed_rxdCmd_class : Instr.wellFormed (.rxdCmd ⟨0x200, 0, false, false, []⟩) = false := by decide
theorem test_illformed_rxdUnrec_length : Instr.wellFormed (.rxdUnrec ⟨0x123, 1, true, true, []⟩) = false := by decide
theorem test_illformed_rxdUnrec_tel : Instr.wellFormed (.rxdUnrec ⟨0x200, 0, true, true, []⟩) = false := by decide
theorem test_illformed_rxdUnrec_cmd : Instr.wellFormed (.rxdUnrec ⟨0x30E, 0, true, true, []⟩) = false := by decide
theorem test_illformed_txdCmd_length : Instr.wellFormed (.txdCmd 0x300 (zeros 25)) = false := by decide
theorem test_illformed_txdTel_length : Instr.wellFormed (.txdTel 0x200 (zeros 40)) = false := by decide
theorem test_illformed_txdTel_padding : Instr.wellFormed (.txdTel 0x200 (ones 12)) = false := by decide

/-! ### Words of the opcode table (log entry 4) -/

theorem test_table_nop : decodeTableWord 32 0x00000000 = some .nop := rfl
theorem test_table_rxdTel : decodeTableWord 32 0x00000200 = some (.rxdTel ⟨0x200, 0, false, false, []⟩) := rfl
theorem test_table_rxdCmd : decodeTableWord 32 0x00000300 = some (.rxdCmd ⟨0x300, 0, false, false, []⟩) := rfl
theorem test_table_txdCmd : decodeTableWord 32 0x0001E000 = some (.txdCmd 0 (zeros 24)) := rfl
theorem test_table_txdKa : decodeTableWord 32 0x0001E800 = some (.txdKa 0) := rfl
theorem test_table_txdTel : decodeTableWord 32 0x0001F000 = some (.txdTel 0 (zeros 48)) := rfl
theorem test_table_init_wdata : decodeTableWord 64 0x0060080010000000 =
    some (.init ⟨.hub, .counting, 0x200, 0x300⟩) := rfl
theorem test_step_runs_table_word :
    step (State.reset.withFetchWord 32 0x20000000) = execConsumeTicks State.reset := rfl

/-! ### The codec and the router (95_test_vectors.md 2.4 to 2.6, E1) -/

theorem test_bytes32_le : bytes32 .le 0x40490FDB = [0xDB, 0x0F, 0x49, 0x40] := by decide
theorem test_bytes32_be : bytes32 .be 0x40490FDB = [0x40, 0x49, 0x0F, 0xDB] := by decide
theorem test_encCmd_be : encCmd .be ⟨#v[14, 0xFFFFFFFF, 0x7FC00001, 0x80000000, 0xFF800000, 1]⟩ =
    [0, 0, 0, 0x0E, 0xFF, 0xFF, 0xFF, 0xFF, 0x7F, 0xC0, 0, 1, 0x80, 0, 0, 0, 0xFF, 0x80, 0, 0, 0, 0, 0, 1] := by decide
theorem test_decTel_index : (decTel .le ([7, 0, 0, 0] ++ zeros 36)).index = 7 := by decide
theorem test_decode_too_short : decodeFrame .le .telCat (zeros 32) = none := by decide
theorem test_decode_longer : decodeFrame .le .cmdCat (zeros 32) = some (.cmd CmdRecord.zero) := by decide
theorem test_lenOf_fd_13 : lenOf true 13 = 32 := by decide
theorem test_lenOf_classic_13 : lenOf false 13 = 8 := by decide
theorem test_classify_last_tel : classify 0x200 0x300 0x20E = .tel 14 := by decide
theorem test_classify_past_tel : classify 0x200 0x300 0x20F = .unrec := by decide
theorem test_classify_top : classify 0x7F1 0x000 0x7FF = .tel 14 := by decide
theorem test_resolve_embedded : resolve 0 14 = 14 := by decide
theorem test_resolve_fallback : resolve 5 0xFFFFFFFF = 5 := by decide
theorem test_cfgValid_touching : cfgValid 0x20F 0x200 = true := by decide
theorem test_cfgValid_overlap : cfgValid 0x100 0x10E = false := by decide
theorem test_cfgValid_leaves_range : cfgValid 0x7F2 0x000 = false := by decide

/-! ### One step each (95_test_vectors.md 2.2, 2.7 to 2.12) -/

theorem test_init_latches : (after (exec (.init ⟨.sat, .pending, 0x200, 0x300⟩)
    { State.reset with env := { Env.quiet with fltAnswers := [true] } })).csr 1 = some 0x00600803 := by decide
theorem test_init_overlap_fails : (after (exec (.init ⟨.hub, .counting, 0x200, 0x208⟩) State.reset)).mode = .failed := by
  decide
theorem test_init_filter_fails : lastResponse (after (exec (.init ⟨.hub, .counting, 0x200, 0x300⟩)
    { State.reset with env := { Env.quiet with fltAnswers := [false] } })) = some ⟨false, .hwFail, 0, none⟩ := by decide
theorem test_init_twice : lastResponse (after (exec (.init ⟨.hub, .counting, 0x200, 0x300⟩) hub)) =
    some ⟨false, .alreadyInit, 0, none⟩ := by decide
theorem test_nop : lastResponse (after (exec .nop State.reset)) = some ⟨true, .none, 0, none⟩ := by decide
theorem test_reserved : lastResponse (after (exec .reservedC hub)) = some ⟨false, .illegalOp, 0, none⟩ := by decide
/-- T5: `TICK_W = 4`, the sixteenth tick wraps. -/
theorem test_tick_wraps :
    (after (exec .tick { hub with tick := 15, params := { defaults with tickW := 4 } })).tick = 0 := by decide
theorem test_tick_pending : (after (exec .tick { sat with tick := 1 })).tick = 1 := by decide
theorem test_consume : lastResponse (after (exec .consumeTicks { hub with tick := 5 })) =
    some ⟨true, .none, 5, none⟩ := by decide
/-- 2.8 a: the embedded index 2 wins over the identifier's 5. -/
theorem test_rx_embedded_wins :
    let t := after (exec (.rxFrame ⟨0x205, 14, true, true, [2, 0, 0, 0, 0, 0, 0x80, 0x3F] ++ zeros 40⟩) hub)
    (t.tel[2]).w[1] = 0x3F800000 ∧ t.tel[5] = TelRecord.zero ∧ t.cntTotal = 1 ∧ t.cntPdo = 1 ∧ t.cntOther = 0 := by
  decide
/-- 2.8 b: index 15 is stored as received, in the identifier's slot. -/
theorem test_rx_fallback :
    (after (exec (.rxdTel ⟨0x205, 14, true, true, [15] ++ zeros 47⟩) hub)).tel[5].index = 15 := by decide
/-- 2.9 d2: a keepalive in the command range is a command for slot 0. -/
theorem test_rx_keepalive_is_command :
    (after (exec (.rxdCmd ⟨0x30A, 13, true, true, zeros 32⟩)
      { sat with cmd := sat.cmd.set 0 ⟨#v[0, 1, 2, 3, 4, 5]⟩ })).cmd[0] = CmdRecord.zero := by decide
/-- 2.8 g: a command frame at a hub is unrecognized. -/
theorem test_rx_outbound_range :
    let t := after (exec (.rxdCmd ⟨0x307, 12, true, true, ones 6⟩) hub)
    t.diag.pending = true ∧ t.diag.id = 0x307 ∧ t.cmd = hub.cmd ∧ t.cntOther = 1 ∧ t.cntPdo = 0 := by decide
/-- P2: the second snapshot replaces the first, zeros after its two bytes. -/
theorem test_rx_unrec_overwrites :
    (after (exec (.rxdUnrec ⟨0x2FF, 2, false, false, [0xAA, 0xBB]⟩)
      { hub with diag := { Diag.zero with data := Vector.replicate 64 0x55 } })).diag.data.toList =
      [0xAA, 0xBB] ++ zeros 62 := by decide
/-- `RX_ACT` answering `Frame(a)`, `Err`, with a frame behind it. -/
theorem test_rxAct_stops_on_err :
    let a : RxFrame := ⟨0x2FF, 1, true, false, [7]⟩
    let t := after (exec .rxAct { hub with env := { hub.env with rxAnswers := [.frame a, .err, .frame a] } })
    t.cntTotal = 1 ∧ t.env.rxAnswers = [.frame a] := by decide
theorem test_rxErr : after (exec .rxErr hub) = hub := by decide
theorem test_getDiag : lastResponse (after (exec .getDiag { hub with diag := snapshot ⟨0x2FF, 2, false, false, [1, 2]⟩ }))
    = some ⟨true, .none, 0, some ⟨0x2FF, 2, false, false, [1, 2]⟩⟩ := by decide
/-- X2, E7: the index is forced to 7 in the frame and stays 3 in the table. -/
theorem test_sendCmd_forces_index :
    let s := { hub with cmd := hub.cmd.set 7 ⟨#v[3, 1, 0x3FC00000, 0, 0, 0]⟩ }
    let t := after (exec (.sendCmd 7) s)
    t.env.sent = [⟨0x307, 12, true, true, false, false,
      [7, 0, 0, 0, 1, 0, 0, 0, 0, 0, 0xC0, 0x3F] ++ zeros 12⟩] ∧ t.cmd = s.cmd := by decide
/-- X6: the role test comes before the index test. -/
theorem test_sendTel_role_first : lastResponse (after (exec (.sendTel 15) hub)) = some ⟨false, .wrongRole, 0, none⟩ := by
  decide
/-- Y3 and Y4: the index is forced only under `TEL_FORCE_INDEX`. -/
theorem test_sendTel_index :
    let s := { sat with tel := sat.tel.set 5 ⟨(Vector.replicate 10 0).set 0 9⟩ }
    (after (exec (.sendTel 5) s)).env.sent = [⟨0x205, 14, true, true, false, false, [9] ++ zeros 47⟩] ∧
    (after (exec (.sendTel 5) { s with params := { defaults with telForceIndex := true } })).env.sent =
      [⟨0x205, 14, true, true, false, false, [5] ++ zeros 47⟩] := by decide
/-- X7. -/
theorem test_sendKeepalive : (after (exec (.sendKeepalive 0x123) hub)).env.sent =
    [⟨0x123, 13, true, true, false, false, zeros 32⟩] := by decide
/-- X11. -/
theorem test_send_fail : lastResponse (after (exec (.sendKeepalive 0x123)
    { hub with env := { Env.quiet with txAnswers := [false] } })) = some ⟨false, .txFail, 0, none⟩ := by decide
theorem test_tblRead : lastResponse (after (exec (.tblRead .cmd 7 2)
    { hub with cmd := hub.cmd.set 7 ⟨#v[3, 1, 0x3FC00000, 0, 0, 0]⟩ })) = some ⟨true, .none, 0x3FC00000, none⟩ := by decide
theorem test_tblWrite : (after (exec (.tblWrite .cmd 7 5 9) hub)).cmd[7] = ⟨#v[0, 0, 0, 0, 0, 9]⟩ := by decide
theorem test_rdCsr_bad : lastResponse (after (exec (.rdCsr 5) hub)) = some ⟨false, .badIndex, 0, none⟩ := by decide
theorem test_reset : after (exec .reset { hub with cntTotal := 9, tick := 3 }) = { State.reset with env := hub.env } := by
  decide
/-- R206, R207: at offset 1 the index word 1 is the motor index; at offset 7 it is not, and nothing leaves. -/
theorem test_txdCmd : (after (exec (.txdCmd 0x301 (ones 6)) hub)).env.sent =
    [⟨0x301, 12, true, true, false, false, ones 6⟩] ∧ after (exec (.txdCmd 0x307 (ones 6)) hub) = hub := by decide
theorem test_txdKa_before_init : (after (exec (.txdKa 0x123) State.reset)).env.sent = [] := by decide
/-- R208: the last identifier of the range with another index word, and the first one past the range. -/
theorem test_txdTel : (after (exec (.txdTel 0x20E (ones 10 ++ zeros 8)) sat)).env.sent.length = 1 ∧
    after (exec (.txdTel 0x20F (ones 10 ++ zeros 8)) sat) = sat := by decide
/-- R61: word 4 of telemetry record 3 lies at bytes 136..139. -/
theorem test_memImage : memRead { hub with tel := hub.tel.set 3 ⟨(Vector.replicate 10 0).set 4 0x11223344⟩ } .tel 136 4 =
    [0x44, 0x33, 0x22, 0x11] := by decide
/-- R64: a word written by address is the word read back. -/
theorem test_memWrite : (memWrite hub .cmd 172 [1, 2, 3, 4]).map (fun t => (t.cmd[7]).w[1]) = some 0x04030201 := by decide

/-! ### Witnesses: for every statement with hypotheses, a state and operands that meet them, each clause at a boundary

A clause that another clause excludes has its own line; a conjunction shows what is met together. -/

/-- A telemetry frame for slot `k` by its embedded index, and a command frame. -/
def telFrame (k : Byte) : RxFrame := ⟨0x20E, 14, true, true, k :: zeros 47⟩
def cmdFrame (k : Byte) : RxFrame := ⟨0x30E, 12, true, true, k :: zeros 23⟩

/-- A frame that no role recognizes: two bytes, classic, identifier 0x2FF. -/
def strayFrame : RxFrame := ⟨0x2FF, 2, false, false, [0xAA, 0xBB]⟩

theorem hub_inv : hub.Inv :=
  ⟨by decide, fun _ => by decide, fun h => absurd rfl h, fun h => absurd h (by decide), by decide, by decide, by decide,
    by decide, by decide⟩

theorem failed_inv : failed.Inv :=
  ⟨by decide, fun h => absurd h (by decide), fun _ => ⟨rfl, rfl, rfl, rfl, rfl, rfl, rfl, rfl, rfl, rfl, rfl⟩,
    fun h => absurd h (by decide), by decide, by decide, by decide, by decide, by decide⟩

theorem witness_DecodeEncodeRoundTrip :
    Instr.wellFormed (.rxdTel (telFrame 14)) = true ∧ Instr.wellFormed (.txdKa 0x7FF) = true ∧
    Instr.wellFormed (.txdTel 0 (ones 10 ++ zeros 8)) = true ∧ Instr.wellFormed (.tblWrite .cmd 15 15 0) = true := by decide

/-- The hypotheses of `UnusedRequestFieldsAreIgnored`. -/
abbrev sameUsedFields (req req' wdata wdata' : Word) : Prop :=
  req.extractLsb' 28 4 = req'.extractLsb' 28 4 ∧
  (req.extractLsb' 28 4 ∈ [(4 : BitVec 4), 5, 7, 8] → req.extractLsb' 23 4 = req'.extractLsb' 23 4) ∧
  (req.extractLsb' 28 4 ∈ [(7 : BitVec 4), 8] →
    req.getLsbD 27 = req'.getLsbD 27 ∧ req.extractLsb' 19 4 = req'.extractLsb' 19 4) ∧
  (req.extractLsb' 28 4 ∈ [(6 : BitVec 4), 9] → req.extractLsb' 0 11 = req'.extractLsb' 0 11) ∧
  (req.extractLsb' 28 4 = 1 → wdata.extractLsb' 0 24 = wdata'.extractLsb' 0 24) ∧
  (req.extractLsb' 28 4 = 8 → wdata = wdata')

/-- Two requests of an operation that differ in every ignored bit: `SEND_CMD(7)`, `RD_CSR(0x7FF)`, `INIT` with `wdata[31:24]`,
`TBL_WRITE`, `TBL_READ`. -/
theorem witness_UnusedRequestFieldsAreIgnored :
    sameUsedFields 0x43800000 0x4BFFFFFF 0 0xFFFFFFFF ∧ sameUsedFields 0x900007FF 0x9FFFFFFF 0 0xFFFFFFFF ∧
    sameUsedFields 0x10000000 0x1FFFFFFF 0x00600800 0xFF600800 ∧ sameUsedFields 0x8BA80000 0x8BAFFFFF 9 9 ∧
    sameUsedFields 0x71A00000 0x71A7FFFF 0 0xFFFFFFFF := by
  refine ⟨?_, ?_, ?_, ?_, ?_⟩ <;> decide

theorem witness_DecodedInstructionsAreWellFormed :
    decode (.rxd 0x0001F20E (zeros 48)) = .ok (.rxdTel ⟨0x20E, 14, true, true, zeros 48⟩) ∧
    decode (.txd 0x0001E307 (ones 6)) = .ok (.txdCmd 0x307 (ones 6)) := ⟨rfl, rfl⟩

theorem witness_StepRunsTheDecodedInstruction :
    (∃ s : State, s.env.inbox = .tickIrq :: [.rst] ∧ decode .tickIrq = .ok .tick ∧ Instr.tick.wellFormed = true) ∧
    State.reset.env.inbox = [] :=
  ⟨⟨{ hub with env := { hub.env with inbox := [.tickIrq, .rst] } }, rfl, rfl, rfl⟩, rfl⟩

theorem witness_ReservedCodesAreRefused :
    Instr.reservedF ∈ [Instr.reservedA, .reservedB, .reservedC, .reservedD, .reservedE, .reservedF] := by decide

/-- The highest bases that fit and touch: 0x7E2..0x7F0 and 0x7F1..0x7FF. -/
theorem witness_InitConfiguresTheBlock :
    let s : State := { State.reset with env := { Env.quiet with fltAnswers := [true] } }
    s.mode = .unconfigured ∧ cfgValid 0x7F1 0x7E2 = true ∧ s.filterAnswer = true := by decide

theorem witness_InitFailsInTheOrderOfItsTests :
    let s : State := { State.reset with env := { Env.quiet with fltAnswers := [false] } }
    hub.mode ≠ .unconfigured ∧ failed.mode ≠ .unconfigured ∧
    (s.mode = .unconfigured ∧ cfgValid 0x7F2 0x7E2 = false ∧ cfgValid 0x7F1 0x7E3 = false) ∧
    (s.mode = .unconfigured ∧ cfgValid 0x7F1 0x7E2 = true ∧ s.filterAnswer = false) := by decide

theorem witness_TblReadReturnsTheWord :
    (14 : BitVec 4).toNat < 15 ∧ (9 : BitVec 4).toNat < 10 ∧ (5 : BitVec 4).toNat < 6 ∧
    15 ≤ (15 : BitVec 4).toNat ∧ 10 ≤ (10 : BitVec 4).toNat ∧ 6 ≤ (6 : BitVec 4).toNat := by decide

theorem witness_TblWriteStoresOneLocalWord :
    sat.mode = .running ∧ sat.role = .sat ∧ hub.mode = .running ∧ hub.role = .hub ∧
    (14 : BitVec 4).toNat < 15 ∧ (9 : BitVec 4).toNat < 10 ∧ (5 : BitVec 4).toNat < 6 := by decide

theorem witness_TblWriteIsRefusedInOrder :
    failed.mode ≠ .running ∧ (hub.mode = .running ∧ hub.role = .hub) ∧ (sat.mode = .running ∧ sat.role = .sat) ∧
    15 ≤ (15 : BitVec 4).toNat ∧ 10 ≤ (10 : BitVec 4).toNat ∧ 6 ≤ (6 : BitVec 4).toNat := by decide

theorem witness_TblWriteChangesFourBytes :
    hub.mode = .running ∧ Arr.cmd = localArr hub.role ∧ wordRef .cmd 14 5 = some (.cmd 14 5) ∧
    exec (.tblWrite .cmd 14 5 9) hub = .next (after (exec (.tblWrite .cmd 14 5 9) hub)) :=
  ⟨rfl, rfl, by decide, rfl⟩

theorem witness_RdCsrReturnsTheRegister :
    (0 : BitVec 11).toNat = 0 ∧ (1 : BitVec 11).toNat = 1 ∧ (2 : BitVec 11).toNat = 2 ∧ (3 : BitVec 11).toNat = 3 ∧
    (4 : BitVec 11).toNat = 4 ∧ 5 ≤ (5 : BitVec 11).toNat ∧ 5 ≤ (0x7FF : BitVec 11).toNat := by decide

theorem witness_ReadsOutsideRunningGiveResetValues :
    failed.Inv ∧ failed.mode ≠ .running ∧ wordRef .tel 14 9 = some (.tel 14 9) ∧ wordRef .cmd 0 5 = some (.cmd 0 5) :=
  ⟨failed_inv, by decide, by decide, by decide⟩

theorem witness_TickCountsOrSetsTheFlag :
    (hub.mode = .running ∧ hub.tickModel = .counting) ∧ (sat.mode = .running ∧ sat.tickModel = .pending) ∧
    State.reset.mode ≠ .running := by decide

/-- `TICK_W = 2`: three ticks, a consumption, three more. -/
theorem witness_TicksAreConserved :
    let s : State := { hub with params := { defaults with tickW := 2 } }
    let es : List Instr := [.tick, .tick, .tick, .consumeTicks, .tick, .tick, .tick]
    s.mode = .running ∧ s.tickModel = .counting ∧ s.params.tickW ≤ 32 ∧ Instr.reset ∉ es ∧
    gapsBelow (2 ^ s.params.tickW) s.tick es :=
  ⟨rfl, rfl, by decide, by decide, by simp [gapsBelow, hub, State.reset, State.resetWith]⟩

theorem witness_PendingFlagSaysWhetherATickOccurred :
    sat.mode = .running ∧ sat.tickModel = .pending ∧ sat.tick = 0 ∧ Instr.reset ∉ [Instr.tick, .tick, .rxAct] ∧
    Instr.consumeTicks ∉ [Instr.tick, .tick, .rxAct] := by decide

theorem witness_TickCommutes : Instr.rxAct ≠ .consumeTicks ∧ ∀ cfg, Instr.rxAct ≠ .init cfg :=
  ⟨by decide, fun _ h => nomatch h⟩

theorem witness_CodecConverse : (ones 10).length = 40 ∧ (ones 6).length = 24 := by decide

theorem witness_MemoryViewFollowsTheByteMap : (ones 1).length = 4 ∧ (ones 10).length = 40 ∧ (ones 6).length = 24 := by decide

theorem witness_LengthCodesThatDecode : (telFrame 14).wellFormed = true ∧ strayFrame.wellFormed = true := by decide

theorem witness_ClassifyFollowsTheRanges : cfgValid 0x20F 0x200 = true ∧ cfgValid 0x7F1 0x000 = true := by decide

theorem witness_EmbeddedIndexWinsWheneverValid :
    (14 : Word).toNat < 15 ∧ 15 ≤ (15 : Word).toNat ∧ 15 ≤ (0xFFFFFFFF : Word).toNat := by decide

theorem witness_RouteSelectsTheSlotWithinTheArray :
    classify 0x200 0x300 0x20E = .tel 14 ∧ classify 0x200 0x300 0x300 = .cmd 0 ∧
    classify 0x200 0x300 0x20F = .unrec := by decide

theorem witness_ByteOrderMismatchInvalidatesTheIndex :
    Endian.le ≠ Endian.be ∧ 1 ≤ (1 : Word).toNat ∧ (14 : Word).toNat ≤ 14 := by decide

/-- 40 data bytes exactly need no length code here; the last identifier of the range. -/
theorem witness_HubStoresReceivedTelemetry :
    let f : RxFrame := ⟨0x20E, 14, true, true, zeros 40⟩
    Instr.rxdTel f ∈ receives f ∧ Instr.rxFrame f ∈ receives f ∧ hub.mode = .running ∧ hub.role = .hub ∧
    f.id.toNat = hub.baseT.toNat + (14 : Fin 15) ∧ 40 ≤ f.data.length := by decide

theorem witness_SatelliteStoresReceivedCommands :
    let f : RxFrame := cmdFrame 14
    Instr.rxdCmd f ∈ receives f ∧ sat.mode = .running ∧ sat.role = .sat ∧ cfgValid sat.baseT sat.baseC = true ∧
    f.id.toNat = sat.baseC.toNat + (14 : Fin 15) ∧ 24 ≤ f.data.length := by decide

/-- The hypotheses of `OtherFramesOverwriteTheSnapshot`. -/
abbrev notForThisRole (s : State) (f : RxFrame) : Prop :=
  s.mode = .running ∧ f.data.length ≤ 64 ∧
  (s.role = .hub → ¬ (s.baseT.toNat ≤ f.id.toNat ∧ f.id.toNat ≤ s.baseT.toNat + 14 ∧ 40 ≤ f.data.length)) ∧
  (s.role = .sat → ¬ (s.baseC.toNat ≤ f.id.toNat ∧ f.id.toNat ≤ s.baseC.toNat + 14 ∧ 24 ≤ f.data.length))

/-- One identifier past the range; one byte short of a record; at both roles. -/
theorem witness_OtherFramesOverwriteTheSnapshot :
    notForThisRole hub ⟨0x20F, 15, true, true, zeros 64⟩ ∧ notForThisRole hub ⟨0x20E, 14, true, true, zeros 39⟩ ∧
    notForThisRole sat ⟨0x30F, 12, true, true, zeros 24⟩ ∧ notForThisRole sat ⟨0x300, 12, true, true, zeros 23⟩ ∧
    Instr.rxdUnrec strayFrame ∈ receives strayFrame := by
  refine ⟨?_, ?_, ?_, ?_, ?_⟩ <;> decide

theorem witness_ReceiveSideIsIgnoredOutsideRunning :
    failed.mode ≠ .running ∧ Instr.rxFrame strayFrame ∈ receives strayFrame := by decide

theorem witness_ReceivedRecordChangesOnlyItsSlotsBytes :
    (hub.mode = .running ∧ hub.role = .hub ∧
      recognize hub (telFrame 3) = some (3, .tel (decTel .le ((telFrame 3).data.take 40))) ∧
      exec (.rxFrame (telFrame 3)) hub = .next (after (exec (.rxFrame (telFrame 3)) hub))) ∧
    (sat.mode = .running ∧ sat.role = .sat ∧
      recognize sat (cmdFrame 15) = some (14, .cmd (decCmd .le ((cmdFrame 15).data.take 24))) ∧
      exec (.rxFrame (cmdFrame 15)) sat = .next (after (exec (.rxFrame (cmdFrame 15)) sat))) :=
  ⟨⟨rfl, rfl, by decide, rfl⟩, rfl, rfl, by decide, rfl⟩

/-- The hub with the given answers of the receive queue. -/
def hubWith (answers : List RxAnswer) : State := { hub with env := { hub.env with rxAnswers := answers } }

theorem witness_ActivationFollowsTheLoop :
    (hubWith []).mode = .running ∧ ((hubWith []).rxPop).1 = .empty ∧ ((hubWith [.empty]).rxPop).1 = .empty ∧
    ((hubWith [.err]).rxPop).1 = .err ∧ ((hubWith [.frame strayFrame]).rxPop).1 = .frame strayFrame := by decide

theorem witness_ActivationIsItsFramesOneByOne :
    let fs := [telFrame 3, strayFrame]
    let stop : List RxAnswer := [.err, .frame (telFrame 4)]
    let s := hubWith (fs.map RxAnswer.frame ++ stop)
    s.mode = .running ∧ s.env.rxAnswers = fs.map RxAnswer.frame ++ stop ∧
    (stop = [] ∨ stop.head? = some .empty ∨ stop.head? = some .err) := by decide

theorem witness_ActivationUpdatesEachSlotOnce :
    let slot : RxFrame → Fin 15 := fun f => if f = telFrame 3 then 3 else 14
    let record : RxFrame → TelRecord := fun f => decTel .le (f.data.take 40)
    let fs := [telFrame 3, telFrame 14]
    let s := hubWith (fs.map RxAnswer.frame ++ [.empty])
    s.Inv ∧ s.mode = .running ∧ s.role = .hub ∧ s.env.rxAnswers = fs.map RxAnswer.frame ++ [.empty] ∧
    (∀ f ∈ fs, recognize s f = some (slot f, .tel (record f))) ∧ (fs.map slot).Nodup :=
  ⟨⟨by decide, fun _ => by decide, fun h => absurd rfl h, fun h => absurd h (by decide), by decide, by decide, by decide,
    by decide, by decide⟩, rfl, rfl, rfl, by decide, by decide⟩

theorem witness_LastWriteWins :
    hub.mode = .running ∧ hub.role = .hub ∧
    recognize hub (telFrame 14) = some (14, .tel (decTel .le ((telFrame 14).data.take 40))) ∧
    recognize hub (telFrame 3) = some (3, .tel (decTel .le ((telFrame 3).data.take 40))) ∧ (3 : Fin 15) ≠ 14 := by decide

theorem witness_SnapshotIsTheLastUnrecognizedFrame :
    hub.mode = .running ∧ strayFrame.wellFormed = true ∧ recognize hub strayFrame = none ∧
    ∀ g ∈ [telFrame 3], (recognize hub g).isSome = true := by decide

theorem witness_GetDiagReturnsAndClears :
    ({ hub with diag := snapshot strayFrame } : State).diag.pending = true ∧ hub.diag.pending = false := by decide

theorem witness_SendCmdOffersTheForcedFrame :
    (14 : BitVec 4).toNat < 15 ∧ hub.mode = .running ∧ hub.role = .hub := by decide

theorem witness_SendTelOffersTheRecord :
    (14 : BitVec 4).toNat < 15 ∧ sat.mode = .running ∧ sat.role = .sat := by decide

theorem witness_SendKeepaliveOffersZeros : hub.mode = .running ∧ sat.mode = .running := by decide

theorem witness_SendsAreRefusedInOrder :
    failed.mode ≠ .running ∧ (sat.mode = .running ∧ sat.role = .sat) ∧ (hub.mode = .running ∧ hub.role = .hub) ∧
    15 ≤ (15 : BitVec 4).toNat := by decide

/-- The satellite under `TEL_FORCE_INDEX`. -/
def forcingSat : State := { sat with params := { defaults with telForceIndex := true } }

/-- Both ends of the command range; the telemetry range with the index forced and with any index; and, for the clauses in
which nothing happens, one identifier past a range, another index word, another length. -/
theorem witness_TxdFramesAreOffered :
    (hub.mode = .running ∧ hub.role = .hub ∧ (0x300 : Ident) = BitVec.ofNat 11 (hub.baseC.toNat + (0 : Fin 15)) ∧
      zeros 24 = encCmd hub.params.endian (CmdRecord.zero.withIndex (BitVec.ofNat 32 (0 : Fin 15))) ∧
      (0x30E : Ident) = BitVec.ofNat 11 (hub.baseC.toNat + (14 : Fin 15)) ∧
      [14] ++ zeros 23 = encCmd hub.params.endian (CmdRecord.zero.withIndex (BitVec.ofNat 32 (14 : Fin 15)))) ∧
    (forcingSat.mode = .running ∧ forcingSat.role = .sat ∧
      (0x20E : Ident) = BitVec.ofNat 11 (forcingSat.baseT.toNat + (14 : Fin 15)) ∧
      [14] ++ zeros 47 = encTel forcingSat.params.endian (TelRecord.zero.withIndex 14) ++ zeros 8 ∧
      (TelRecord.zero.withIndex 14).index = BitVec.ofNat 32 (14 : Fin 15)) ∧
    (sat.params.telForceIndex = false ∧ failed.mode ≠ .running ∧
      (¬ ∃ i : Fin 15, (0x30F : Ident) = BitVec.ofNat 11 (hub.baseC.toNat + i) ∧ (zeros 24).length = 24 ∧
        word32 hub.params.endian ((zeros 24).take 4) = BitVec.ofNat 32 i) ∧
      (¬ ∃ i : Fin 15, (0x30E : Ident) = BitVec.ofNat 11 (hub.baseC.toNat + i) ∧ (zeros 24).length = 24 ∧
        word32 hub.params.endian ((zeros 24).take 4) = BitVec.ofNat 32 i) ∧
      (¬ ∃ i : Fin 15, (0x20E : Ident) = BitVec.ofNat 11 (sat.baseT.toNat + i) ∧ (zeros 47).length = 48 ∧
        (zeros 47).drop 40 = zeros 8 ∧ (sat.params.telForceIndex = true →
          word32 sat.params.endian ((zeros 47).take 4) = BitVec.ofNat 32 i))) := by
  refine ⟨⟨?_, ?_, ?_, ?_, ?_, ?_⟩, ⟨?_, ?_, ?_, ?_, ?_⟩, ?_, ?_, ?_, ?_, ?_⟩ <;> decide

theorem witness_NothingIsSentOutsideRunning : failed.mode ≠ .running ∧ State.reset.mode ≠ .running := by decide

theorem witness_CommandReachesItsSlotAtTheSatellite :
    (14 : BitVec 4).toNat < 15 ∧ hub.mode = .running ∧ hub.role = .hub ∧ hub.txAnswer = true ∧ sat.mode = .running ∧
    sat.role = .sat ∧ cfgValid sat.baseT sat.baseC = true ∧ sat.baseC = hub.baseC ∧
    sat.params.endian = hub.params.endian := by decide

theorem witness_KeepaliveInCommandRangeZeroesSlotZero :
    hub.mode = .running ∧ hub.txAnswer = true ∧ sat.mode = .running ∧ sat.role = .sat ∧
    cfgValid sat.baseT sat.baseC = true ∧ (0x30E : Ident).toNat = sat.baseC.toNat + (14 : Fin 15) := by decide

theorem witness_SendCommandStoresThenSends :
    hub.mode = .running ∧ hub.role = .hub ∧ (14 : Nat) < 15 ∧ ((-1 : Int) < 0 ∧ (16 : Int) ≤ 16) := by decide

theorem witness_StepKeepsTheInvariant :
    let s : State := { hub with env := { hub.env with inbox := [.tickIrq] } }
    s.Inv ∧ ∃ t, step s = .next t :=
  ⟨⟨by decide, fun _ => by decide, fun h => absurd rfl h, fun h => absurd h (by decide), by decide, by decide, by decide,
    by decide, by decide⟩, _, rfl⟩

theorem witness_ModeMovesOnlyByInitAndReset :
    Instr.getDiag ≠ .reset ∧ hub.mode ≠ .unconfigured ∧ (∀ cfg, Instr.getDiag ≠ .init cfg) ∧
    State.reset.mode = .unconfigured ∧ ∃ cfg, Instr.init ⟨.hub, .counting, 0x200, 0x300⟩ = .init cfg :=
  ⟨by decide, by decide, fun _ h => (nomatch h), rfl, _, rfl⟩

theorem witness_EachArrayIsWrittenByItsOwnerOnly :
    Instr.tick ≠ .reset ∧ Instr.tick ≠ .rxAct ∧ (∀ f, Instr.tick ∉ receives f) ∧ hub.role = .hub ∧ sat.role = .sat ∧
    ∀ arr idx fld v, Instr.tick ≠ .tblWrite arr idx fld v :=
  ⟨by decide, by decide, fun _ => by simp [receives], rfl, rfl, fun _ _ _ _ h => nomatch h⟩

theorem witness_HostOperationsLeaveInterruptState :
    context (.sendCmd 15) = .mainLoop ∧ Instr.sendCmd 15 ≠ .getDiag ∧ Instr.sendCmd 15 ≠ .consumeTicks := by decide

theorem witness_EveryHostOperationIsAnsweredOnce : context (.rdCsr 5) = .mainLoop ∧ context .rxAct ≠ .mainLoop := by decide

end Sys2Proof.Tests
end

section
/-! Everything one operation or event can do to the record `S`, said once: the relation `Effect` and the lemma
`exec_effect`, that `exec` answers a next state and that it is one of those effects. -/

namespace Sys2Proof.Machine

/-- `Effect s i t`: what `i` can do to the record `S`, an upper bound tied to `exec` by `exec_effect`. What becomes of
the environment is left open. -/
inductive Effect (s : State) : Instr → State → Prop where
  /-- `S` is left as it was; `INIT` does so only as a second one (R231). -/
  | stays {i : Instr} (env : Env) (h : ∀ cfg, i = .init cfg → s.mode ≠ .unconfigured) :
      Effect s i { s with env := env }
  /-- a successful `INIT` (R231) -/
  | latched {cfg : RoleConfig} (env : Env) (hm : s.mode = .unconfigured)
      (hv : cfgValid cfg.baseT cfg.baseC = true) : Effect s (.init cfg) { s.latch cfg with env := env }
  /-- an unsuccessful first `INIT` (R231) -/
  | failed {cfg : RoleConfig} (env : Env) (hm : s.mode = .unconfigured) :
      Effect s (.init cfg) { s.fail with env := env }
  /-- a tick in `RUNNING` (R192) -/
  | ticked (hm : s.mode = .running) : Effect s .tick s.countTick
  /-- the tick element read and cleared (R194) -/
  | consumed (env : Env) : Effect s .consumeTicks { s.clearTick with env := env }
  /-- a pending snapshot read, its flag cleared (R175) -/
  | diagRead (env : Env) (hp : s.diag.pending = true) : Effect s .getDiag { s.clearPending with env := env }
  /-- one word of the local array written (R241) -/
  | wordWritten {arr : Arr} {idx fld : BitVec 4} {v : Word} {p : WordRef} (env : Env) (hm : s.mode = .running)
      (hp : p.space = localArr s.role) : Effect s (.tblWrite arr idx fld v) { s.writeWord v p with env := env }
  /-- received frames, one after another (R166, R167) -/
  | received {i : Instr} (fs : List RxFrame) (env : Env) (hi : i = .rxAct ∨ ∃ f, i ∈ receives f) :
      Effect s i (fs.foldl State.rxFrame { s with env := env })
  /-- every element at its reset value (R300) -/
  | reset : Effect s .reset s.resetBlock

/-! ### Each meaning has one of these effects -/

section Meanings
variable (s : State)

theorem execInit_effect (cfg : RoleConfig) : ∃ t, execInit cfg s = .next t ∧ Effect s (.init cfg) t := by
  unfold execInit
  split
  · exact ⟨_, rfl, .stays _ fun _ _ => ‹_›⟩
  · have hm : s.mode = .unconfigured := not_ne_iff.mp ‹_›
    split
    · exact ⟨_, rfl, .failed _ hm⟩
    · split
      · exact ⟨_, rfl, .latched _ hm (not_not.mp ‹_›)⟩
      · exact ⟨_, rfl, .failed _ hm⟩

theorem execGetDiag_effect : ∃ t, execGetDiag s = .next t ∧ Effect s .getDiag t := by
  unfold execGetDiag
  split
  · exact ⟨_, rfl, .diagRead _ ‹_›⟩
  · exact ⟨_, rfl, .stays _ nofun⟩

theorem send_stays (k : FrameKind) {i : Instr} (h : ∀ cfg, i = .init cfg → s.mode ≠ .unconfigured) :
    Effect s i (s.send k) := by
  rw [send_eq]
  exact .stays _ h

theorem execSendCmd_effect (idx : BitVec 4) : ∃ t, execSendCmd idx s = .next t ∧ Effect s (.sendCmd idx) t := by
  unfold execSendCmd
  split
  · exact ⟨_, rfl, .stays _ nofun⟩
  · split
    · exact ⟨_, rfl, .stays _ nofun⟩
    · split
      · exact ⟨_, rfl, .stays _ nofun⟩
      · exact ⟨_, rfl, send_stays s _ nofun⟩

theorem execSendTel_effect (idx : BitVec 4) : ∃ t, execSendTel idx s = .next t ∧ Effect s (.sendTel idx) t := by
  unfold execSendTel
  split
  · exact ⟨_, rfl, .stays _ nofun⟩
  · split
    · exact ⟨_, rfl, .stays _ nofun⟩
    · split
      · exact ⟨_, rfl, .stays _ nofun⟩
      · exact ⟨_, rfl, send_stays s _ nofun⟩

theorem execSendKeepalive_effect (id : Ident) :
    ∃ t, execSendKeepalive id s = .next t ∧ Effect s (.sendKeepalive id) t := by
  unfold execSendKeepalive
  split
  · exact ⟨_, rfl, .stays _ nofun⟩
  · exact ⟨_, rfl, send_stays s _ nofun⟩

theorem execTblRead_effect (arr : Arr) (idx fld : BitVec 4) :
    ∃ t, execTblRead arr idx fld s = .next t ∧ Effect s (.tblRead arr idx fld) t := by
  unfold execTblRead
  split <;> exact ⟨_, rfl, .stays _ nofun⟩

theorem execTblWrite_effect (arr : Arr) (idx fld : BitVec 4) (v : Word) :
    ∃ t, execTblWrite arr idx fld v s = .next t ∧ Effect s (.tblWrite arr idx fld v) t := by
  unfold execTblWrite
  split
  · exact ⟨_, rfl, .stays _ nofun⟩
  · split
    · exact ⟨_, rfl, .stays _ nofun⟩
    · split
      · exact ⟨_, rfl, .stays _ nofun⟩
      · next hp =>
        have hm : s.mode = .running := not_ne_iff.mp ‹¬ s.mode ≠ .running›
        have ha : arr = localArr s.role := not_ne_iff.mp ‹_›
        exact ⟨_, rfl, .wordWritten _ hm ((wordRef_space hp).trans ha)⟩

theorem execRdCsr_effect (imm : BitVec 11) : ∃ t, execRdCsr imm s = .next t ∧ Effect s (.rdCsr imm) t := by
  unfold execRdCsr
  split <;> exact ⟨_, rfl, .stays _ nofun⟩

theorem execTick_effect : ∃ t, execTick s = .next t ∧ Effect s .tick t := by
  unfold execTick
  split
  · exact ⟨_, rfl, .ticked ‹_›⟩
  · exact ⟨_, rfl, .stays s.env nofun⟩

theorem execRxAct_effect : ∃ t, execRxAct s = .next t ∧ Effect s .rxAct t := by
  unfold execRxAct
  split
  · rw [drain_eq_foldl]
    exact ⟨_, rfl, .received _ _ (.inl rfl)⟩
  · exact ⟨_, rfl, .stays s.env nofun⟩

/-- A single frame is a list of one (R165, R167). -/
theorem rxFrame_effect {i : Instr} {f : RxFrame} (h : i ∈ receives f) : Effect s i (s.rxFrame f) :=
  .received [f] s.env (.inr ⟨f, h⟩)

/-- A frame of format TXD touches the controller's side alone (R211; log entry 6). -/
theorem offer_stays (b : Bool) (g : TxFrame) {i : Instr} (h : ∀ cfg, i = .init cfg → s.mode ≠ .unconfigured) :
    Effect s i (s.offer b g) := by
  obtain ⟨_, _, e⟩ | e := offer_cases s b g
  · rw [e]; exact .stays _ h
  · rw [e]; exact .stays s.env h

end Meanings

/-- Every operation and event, in every state, goes on, and to one of its effects. -/
theorem exec_effect (i : Instr) (s : State) : ∃ t, exec i s = .next t ∧ Effect s i t := by
  cases i with
  | nop | reservedA | reservedB | reservedC | reservedD | reservedE | reservedF => exact ⟨_, rfl, .stays _ nofun⟩
  | init cfg => exact execInit_effect s cfg
  | consumeTicks => exact ⟨_, rfl, .consumed _⟩
  | getDiag => exact execGetDiag_effect s
  | sendCmd idx => exact execSendCmd_effect s idx
  | sendTel idx => exact execSendTel_effect s idx
  | sendKeepalive id => exact execSendKeepalive_effect s id
  | tblRead arr idx fld => exact execTblRead_effect s arr idx fld
  | tblWrite arr idx fld v => exact execTblWrite_effect s arr idx fld v
  | rdCsr imm => exact execRdCsr_effect s imm
  | tick => exact execTick_effect s
  | rxAct => exact execRxAct_effect s
  | rxErr => exact ⟨_, rfl, .stays s.env nofun⟩
  | reset => exact ⟨_, rfl, .reset⟩
  | rxFrame f | rxdTel f | rxdCmd f | rxdUnrec f => exact ⟨_, rfl, rxFrame_effect s (f := f) (by simp [receives])⟩
  | txdCmd | txdKa | txdTel => exact ⟨_, rfl, offer_stays s _ _ nofun⟩

/-- As `exec_effect`, for a next state already at hand. -/
theorem effect_of_exec {i : Instr} {s t : State} (h : exec i s = .next t) : Effect s i t := by
  obtain ⟨t', h', e⟩ := exec_effect i s
  obtain rfl : t' = t := by simpa [h'] using h
  exact e

/-- A step that goes on performs nothing, or one instruction from `S` with the event taken from the environment. -/
theorem effect_of_step {s t : State} (h : step s = .next t) :
    t = s ∨ ∃ i env, Effect { s with env := env } i t := by
  unfold step State.nextTransfer at h
  split at h
  · cases h; exact .inl rfl
  · next x s' hx =>
    split at hx
    · cases hx
    · cases hx
      split at h
      · exact .inr ⟨_, _, effect_of_exec h⟩
      · cases h

end Sys2Proof.Machine
end

section
/-! Who moves what: the mode and the configuration (spec/10_state.md R21, R22), the two arrays (R26, R27), the elements
that the interrupt context owns (R28, R30). Each is a case analysis of `Effect`. -/

namespace Sys2Proof.Machine

/-! ### The mode and the configuration -/

/-- Whatever is neither a reset nor a first `INIT` keeps the mode and the configuration. -/
theorem Effect.mode_config_eq {s t : State} {i : Instr} (e : Effect s i t) (hr : i ≠ .reset)
    (hi : s.mode ≠ .unconfigured ∨ ∀ cfg, i ≠ .init cfg) :
    t.mode = s.mode ∧ t.role = s.role ∧ t.tickModel = s.tickModel ∧ t.baseT = s.baseT ∧ t.baseC = s.baseC := by
  cases e with
  | stays | ticked | consumed | diagRead | wordWritten => simp
  | latched env hm hv => simp [hm] at hi
  | failed env hm => simp [hm] at hi
  | received fs env _ =>
    obtain ⟨hmode, hrole, hmodel, ht, hc, -⟩ := foldl_rxFrame_frame fs { s with env := env }
    exact ⟨hmode, hrole, hmodel, ht, hc⟩
  | reset => exact absurd rfl hr

/-- A first `INIT` settles the mode (R231). -/
theorem Effect.init_mode {s t : State} {cfg : RoleConfig} (e : Effect s (.init cfg) t) (hm : s.mode = .unconfigured) :
    t.mode = .running ∨ t.mode = .failed := by
  cases e with
  | stays env h => exact absurd hm (h cfg rfl)
  | latched => exact .inl rfl
  | failed => exact .inr rfl
  | received fs env hi => simp [receives] at hi

/-- Settles O56, by the effects of everything but a reset. -/
theorem modeMovesOnlyByInitAndReset : Obligations.ModeMovesOnlyByInitAndReset := by
  intro i s hr
  obtain ⟨t, h, e⟩ := exec_effect i s
  refine ⟨t, h, e.mode_config_eq hr, ?_⟩
  rintro hm ⟨cfg, rfl⟩
  exact e.init_mode hm

/-! ### The two arrays -/

/-- A word of one array leaves the other as it was. -/
theorem State.writeWord_tel_of_cmd (s : State) (v : Word) {p : WordRef} (h : p.space = .cmd) :
    (s.writeWord v p).tel = s.tel := by
  cases p with
  | tel => cases h
  | cmd => rfl

/-- As `State.writeWord_tel_of_cmd`, the other way round. -/
theorem State.writeWord_cmd_of_tel (s : State) (v : Word) {p : WordRef} (h : p.space = .tel) :
    (s.writeWord v p).cmd = s.cmd := by
  cases p with
  | tel => rfl
  | cmd => cases h

/-- A received frame leaves the local array as it was (R27). -/
theorem rxFrame_local (s : State) (f : RxFrame) :
    (s.role = .hub → (s.rxFrame f).cmd = s.cmd) ∧ (s.role = .sat → (s.rxFrame f).tel = s.tel) := by
  unfold State.rxFrame
  split
  · obtain ⟨_, _, _, hr, h⟩ | ⟨_, _, _, hr, h⟩ | ⟨_, h⟩ := receive_cases s f
    · simp [h, hr]
    · simp [h, hr]
    · simp [h]
  · simp

/-- So do any number of them. -/
theorem foldl_rxFrame_local (fs : List RxFrame) (s : State) :
    (s.role = .hub → (fs.foldl State.rxFrame s).cmd = s.cmd) ∧
    (s.role = .sat → (fs.foldl State.rxFrame s).tel = s.tel) := by
  induction fs generalizing s with
  | nil => simp
  | cons f fs ih =>
    obtain ⟨hub, sat⟩ := ih (s.rxFrame f)
    rw [rxFrame_role] at hub sat
    obtain ⟨hub', sat'⟩ := rxFrame_local s f
    exact ⟨fun h => (hub h).trans (hub' h), fun h => (sat h).trans (sat' h)⟩

/-- What is neither a reset nor a received frame leaves the owned array as it was (R27). -/
theorem Effect.owned_eq {s t : State} {i : Instr} (e : Effect s i t) (hr : i ≠ .reset) (hact : i ≠ .rxAct)
    (hf : ∀ f, i ∉ receives f) : (s.role = .hub → t.tel = s.tel) ∧ (s.role = .sat → t.cmd = s.cmd) := by
  cases e with
  | stays | latched | failed | ticked | consumed | diagRead => simp
  | wordWritten env hm hp =>
    exact ⟨fun h => s.writeWord_tel_of_cmd _ (by rw [hp, h]; rfl),
      fun h => s.writeWord_cmd_of_tel _ (by rw [hp, h]; rfl)⟩
  | received fs env hi =>
    obtain h | ⟨f, h⟩ := hi
    · exact absurd h hact
    · exact absurd h (hf f)
  | reset => exact absurd rfl hr

/-- What is neither a reset nor a `TBL_WRITE` leaves the local array as it was (R27). -/
theorem Effect.local_eq {s t : State} {i : Instr} (e : Effect s i t) (hr : i ≠ .reset)
    (hw : ∀ arr idx fld v, i ≠ .tblWrite arr idx fld v) :
    (s.role = .hub → t.cmd = s.cmd) ∧ (s.role = .sat → t.tel = s.tel) := by
  cases e with
  | stays | latched | failed | ticked | consumed | diagRead => simp
  | wordWritten => exact absurd rfl (hw _ _ _ _)
  | received fs env hi => exact foldl_rxFrame_local fs { s with env := env }
  | reset => exact absurd rfl hr

/-- Settles O57: a written word lies in the local array, a received record in the owned one. -/
theorem eachArrayIsWrittenByItsOwnerOnly : Obligations.EachArrayIsWrittenByItsOwnerOnly := by
  intro i s hr
  obtain ⟨t, h, e⟩ := exec_effect i s
  exact ⟨t, h, e.owned_eq hr, e.local_eq hr⟩

/-! ### The elements of the interrupt context -/

/-- Received frames belong to the interrupt context (R275). -/
theorem context_of_received {i : Instr} (h : i = .rxAct ∨ ∃ f, i ∈ receives f) : context i = .interrupt := by
  obtain rfl | ⟨f, h⟩ := h
  · rfl
  · simp only [receives, List.mem_cons, List.not_mem_nil, or_false] at h
    obtain rfl | rfl | rfl | rfl := h <;> rfl

/-- A host operation leaves the counters as they were, and the snapshot and the tick but for the operation that reads
and clears each (R30). -/
theorem Effect.host_frame {s t : State} {i : Instr} (e : Effect s i t) (hc : context i = .mainLoop) :
    t.cntTotal = s.cntTotal ∧ t.cntPdo = s.cntPdo ∧ t.cntOther = s.cntOther ∧
    (i ≠ .getDiag → t.diag = s.diag) ∧ (i ≠ .consumeTicks → t.tick = s.tick) := by
  cases e with
  | stays | latched | failed | consumed | diagRead | wordWritten => simp
  | ticked | reset => cases hc
  | received fs env hi => rw [context_of_received hi] at hc; cases hc

/-- Settles O58, by the effects a host operation can have. -/
theorem hostOperationsLeaveInterruptState : Obligations.HostOperationsLeaveInterruptState := by
  intro i s hc
  obtain ⟨t, h, e⟩ := exec_effect i s
  exact ⟨t, h, e.host_frame hc⟩

end Sys2Proof.Machine
end

section
/-! The invariant of the block (spec/10_state.md R22, R32 to R36): it holds after reset and every step keeps it. -/

namespace Sys2Proof.Machine
open Sys2Proof.Config

/-! ### Counting modulo `2 ^ w` -/

theorem wrapInc_lt (w v : Nat) : wrapInc w v < 2 ^ w := Nat.mod_lt _ (Nat.two_pow_pos w)

/-- Counting one summand counts the sum (R36). -/
theorem wrapInc_mod_add (w a b : Nat) : wrapInc w ((a + b) % 2 ^ w) = (wrapInc w a + b) % 2 ^ w := by
  simp only [wrapInc, Nat.mod_add_mod, Nat.add_right_comm]

/-! ### Reset -/

/-- Reset meets the invariant for every tick element with a bit for the pending flag. -/
theorem State.inv_resetWith {p : Params} (env : Env) (h : 1 ≤ p.tickW) : (State.resetWith p env).Inv where
  tickW_pos := h
  config := nofun
  idle _ := ⟨rfl, rfl, rfl, rfl, rfl, rfl, rfl, rfl, rfl, rfl, rfl⟩
  flag := nofun
  tick_lt := Nat.two_pow_pos _
  total_lt := Nat.two_pow_pos _
  pdo_lt := Nat.two_pow_pos _
  other_lt := Nat.two_pow_pos _
  total_eq := (Nat.zero_mod _).symm

/-- Settles O54, at the default parameters. -/
theorem resetMeetsTheInvariant : Obligations.ResetMeetsTheInvariant :=
  State.inv_resetWith Env.quiet (by decide)

/-- Settles O53: every element of `State.resetWith` is written out there. -/
theorem resetRestoresEveryElement : Obligations.ResetRestoresEveryElement :=
  ⟨fun _ => rfl, congrArg Host.Outcome.next State.reset_resetBlock⟩

/-! ### What each effect does to it -/

/-- The invariant speaks of `S` and the parameters alone. -/
theorem State.Inv.withEnv {s : State} (hs : s.Inv) (env : Env) : ({ s with env := env } : State).Inv :=
  { hs with idle := fun hm => { hs.idle hm with } }

/-- In `UNCONFIGURED` everything else is at reset, so whatever `INIT` latches is met (R22, R231). -/
theorem State.Inv.latch {s : State} (hs : s.Inv) (hm : s.mode = .unconfigured) {cfg : RoleConfig}
    (hv : cfgValid cfg.baseT cfg.baseC = true) : (s.latch cfg).Inv :=
  have hu : s.Untouched := hs.idle (by simp [hm])
  { hs with
    config := fun _ => hv
    idle := fun h => absurd rfl h
    flag := fun _ => hu.tick.le.trans (Nat.zero_le 1) }

/-- A failed `INIT` moves the mode alone (R21, R231). -/
theorem State.Inv.fail {s : State} (hs : s.Inv) (hm : s.mode = .unconfigured) : s.fail.Inv :=
  have hu : s.Untouched := hs.idle (by simp [hm])
  { hs with
    config := nofun
    idle := fun _ => { hu with } }

/-- A tick is a count below `2 ^ TICK_W` or the flag in bit 0 (R192). -/
theorem State.Inv.countTick {s : State} (hs : s.Inv) (hm : s.mode = .running) : s.countTick.Inv := by
  have one_lt : 1 < 2 ^ s.params.tickW := Nat.one_lt_two_pow (Nat.ne_of_gt hs.tickW_pos)
  unfold State.countTick
  split
  · next ht =>
    exact { hs with
      idle := fun h => absurd hm h
      flag := fun h => by simp [ht] at h
      tick_lt := wrapInc_lt _ _ }
  · exact { hs with
      idle := fun h => absurd hm h
      flag := fun _ => Nat.le_refl 1
      tick_lt := one_lt }

theorem State.Inv.clearTick {s : State} (hs : s.Inv) : s.clearTick.Inv :=
  { hs with
    idle := fun hm => { hs.idle hm with tick := rfl }
    flag := fun _ => Nat.zero_le 1
    tick_lt := Nat.two_pow_pos _ }

/-- A snapshot is pending in `RUNNING` only. -/
theorem State.Inv.running_of_pending {s : State} (hs : s.Inv) (hp : s.diag.pending = true) : s.mode = .running := by
  by_contra hm
  rw [(hs.idle hm).diag] at hp
  cases hp

theorem State.Inv.clearPending {s : State} (hs : s.Inv) (hp : s.diag.pending = true) : s.clearPending.Inv :=
  { hs with idle := fun hm => absurd (hs.running_of_pending hp) hm }

theorem State.Inv.writeWord {s : State} (hs : s.Inv) (hm : s.mode = .running) (v : Word) (p : WordRef) :
    (s.writeWord v p).Inv := by
  cases p with
  | tel | cmd => exact { hs with idle := fun h => absurd hm h }

/-- A frame counts the total and one of its two summands, whichever path it takes (R36, R167). -/
theorem State.Inv.receive {s : State} (hs : s.Inv) (hm : s.mode = .running) (f : RxFrame) : (s.receive f).Inv := by
  have recognized : wrapInc s.params.cntW s.cntTotal =
      (wrapInc s.params.cntW s.cntPdo + s.cntOther) % 2 ^ s.params.cntW := by
    rw [hs.total_eq, wrapInc_mod_add]
  have unrecognized : wrapInc s.params.cntW s.cntTotal =
      (s.cntPdo + wrapInc s.params.cntW s.cntOther) % 2 ^ s.params.cntW := by
    rw [hs.total_eq, Nat.add_comm s.cntPdo, wrapInc_mod_add, Nat.add_comm]
  obtain ⟨_, _, _, _, h⟩ | ⟨_, _, _, _, h⟩ | ⟨_, h⟩ := receive_cases s f
  case inl | inr.inl =>
    rw [h]
    exact { hs with
      idle := fun h => absurd hm h
      total_lt := wrapInc_lt _ _
      pdo_lt := wrapInc_lt _ _
      total_eq := recognized }
  case inr.inr =>
    rw [h]
    exact { hs with
      idle := fun h => absurd hm h
      total_lt := wrapInc_lt _ _
      other_lt := wrapInc_lt _ _
      total_eq := unrecognized }

theorem State.Inv.rxFrame {s : State} (hs : s.Inv) (f : RxFrame) : (s.rxFrame f).Inv := by
  unfold State.rxFrame
  split
  · exact hs.receive ‹_› f
  · exact hs

theorem State.Inv.foldl_rxFrame {s : State} (hs : s.Inv) (fs : List RxFrame) : (fs.foldl State.rxFrame s).Inv := by
  induction fs generalizing s with
  | nil => exact hs
  | cons f fs ih => exact ih (hs.rxFrame f)

/-- Every operation and event keeps the invariant. -/
theorem Effect.inv {s t : State} {i : Instr} (e : Effect s i t) (hs : s.Inv) : t.Inv := by
  cases e with
  | stays env h => exact hs.withEnv env
  | latched env hm hv => exact (hs.latch hm hv).withEnv env
  | failed env hm => exact (hs.fail hm).withEnv env
  | ticked hm => exact hs.countTick hm
  | consumed env => exact hs.clearTick.withEnv env
  | diagRead env hp => exact (hs.clearPending hp).withEnv env
  | wordWritten env hm hp => exact (hs.writeWord hm _ _).withEnv env
  | received fs env hi => exact (hs.withEnv env).foldl_rxFrame fs
  | reset => exact State.inv_resetWith s.env hs.tickW_pos

/-- Settles O55: the event taken is the environment's, and its effect keeps the invariant. -/
theorem stepKeepsTheInvariant : Obligations.StepKeepsTheInvariant := by
  intro s t hs h
  obtain rfl | ⟨i, env, e⟩ := effect_of_step h
  · exact hs
  · exact e.inv (hs.withEnv env)

end Sys2Proof.Machine
end

section
/-! The readable registers (spec/10_state.md R37): the register `CFG` has the layout of the configuration word of `INIT`
(spec/30_encoding.md R101), so what that word's fields read as is known already. -/

namespace Sys2Proof.Machine
open Sys2Proof.Laws

/-- The configuration of the block as `INIT` takes it (R22, R101). -/
def State.config (s : State) : RoleConfig := ⟨s.role, s.tickModel, s.baseT, s.baseC⟩

/-- An append as a number. -/
theorem toNat_append_eq_add {m n : Nat} (a : BitVec m) (b : BitVec n) :
    (a ++ b).toNat = a.toNat * 2 ^ n + b.toNat := by
  rw [BitVec.toNat_append, ← Nat.shiftLeft_add_eq_or_of_lt b.isLt, Nat.shiftLeft_eq]

theorem roleField_toNat (r : Role) : (roleField r).toNat = roleBit r := by cases r <;> rfl

theorem tickModelField_toNat (m : TickModel) : (tickModelField m).toNat = tickModelBit m := by cases m <;> rfl

/-- The configuration word as a number (R101). -/
theorem encodeConfig_toNat (c : RoleConfig) : (encodeConfig c).toNat =
    roleBit c.role + 2 * tickModelBit c.tickModel + 4 * c.baseT.toNat + 8192 * c.baseC.toNat := by
  simp only [encodeConfig, toNat_append_eq_add, roleField_toNat, tickModelField_toNat, BitVec.ofNat_eq_ofNat,
    BitVec.toNat_ofNat]
  omega

/-- The register `CFG` is the configuration word (R37, R101). -/
theorem State.csr_one (s : State) : s.csr 1 = some (encodeConfig s.config) := by
  have h : BitVec.ofNat 32 (encodeConfig s.config).toNat = encodeConfig s.config := by simp
  rw [encodeConfig_toNat] at h
  exact congrArg some h

/-- The bits that the configuration word does not use read as zero (R101). -/
theorem encodeConfig_reserved (c : RoleConfig) : (encodeConfig c).extractLsb' 24 8 = 0 := by
  rw [encodeConfig, extract_above _ _ (k := 23), extract_above _ _ (k := 22), extract_above _ c.baseT (k := 11),
    extract_above _ c.baseC (k := 0)]
  exact BitVec.extractLsb'_eq_self

/-- `decodeConfig` takes each field from its own bits (R101). -/
theorem fields_of_decodeConfig {v : Word} {c : RoleConfig} (h : decodeConfig v = c) :
    v.getLsbD 0 = decide (c.role = .sat) ∧ v.getLsbD 1 = decide (c.tickModel = .pending) ∧
    v.extractLsb' 2 11 = c.baseT ∧ v.extractLsb' 13 11 = c.baseC := by
  subst h
  refine ⟨?_, ?_, rfl, rfl⟩
  · unfold decodeConfig; cases v.getLsbD 0 <;> rfl
  · unfold decodeConfig; cases v.getLsbD 1 <;> rfl

/-- A register that the table has is answered with its value (R246). -/
theorem exec_rdCsr_of_some {s : State} {imm : BitVec 11} {n : Nat} {v : Word} (hn : imm.toNat = n)
    (h : s.csr n = some v) : exec (.rdCsr imm) s = .next (s.accept v) := by
  simp [exec, execRdCsr, hn, h]

/-- The registers end at 4 (R37). -/
theorem State.csr_eq_none (s : State) {n : Nat} (h : 5 ≤ n) : s.csr n = none := by
  obtain ⟨k, rfl⟩ := Nat.exists_eq_add_of_le' h
  rfl

/-- A reserved register number is refused (R246). -/
theorem exec_rdCsr_reserved {s : State} {imm : BitVec 11} (h : 5 ≤ imm.toNat) :
    exec (.rdCsr imm) s = .next (s.refuse .badIndex) := by
  simp [exec, execRdCsr, s.csr_eq_none h]

/-- The register `STATUS` is the mode's code (R21, R37). -/
theorem State.csr_zero (s : State) :
    s.csr 0 = some (match s.mode with | .unconfigured => 0 | .running => 1 | .failed => 2) := by
  cases h : s.mode <;> simp [State.csr, h, Mode.code]

/-- Settles O16, one register after another; `CFG` by the fields of the configuration word. -/
theorem rdCsrReturnsTheRegister : Obligations.RdCsrReturnsTheRegister := by
  intro s imm
  refine ⟨fun h => exec_rdCsr_of_some h s.csr_zero,
    fun h => ⟨encodeConfig s.config, exec_rdCsr_of_some h s.csr_one, ?_⟩,
    fun h => exec_rdCsr_of_some h rfl, fun h => exec_rdCsr_of_some h rfl, fun h => exec_rdCsr_of_some h rfl,
    exec_rdCsr_reserved⟩
  obtain ⟨hrole, hmodel, ht, hc⟩ := fields_of_decodeConfig (decodeConfig_encodeConfig s.config)
  exact ⟨hrole, hmodel, ht, hc, encodeConfig_reserved _⟩

end Sys2Proof.Machine
end

section
/-! Lists made of blocks of one length: how the two spaces are laid out, records in a space and words in a record
(spec/20_memory.md R61, R62), and how a record lies in a payload (spec/40_frame_codec.md R131 to R134). -/

namespace Sys2Proof.Machine

section Blocks
variable {α β : Type} {f : α → List β} {n : Nat}

/-- Place `a` lies in block `a / n`, `a % n` places in. -/
theorem getElem?_flatMap_blocks (hf : ∀ x, (f x).length = n) (hn : 0 < n) (l : List α) (a : Nat) :
    (l.flatMap f)[a]? = l[a / n]?.bind fun x => (f x)[a % n]? := by
  induction l generalizing a with
  | nil => simp
  | cons x l ih =>
    rw [List.flatMap_cons, List.getElem?_append, hf]
    split
    · next h => simp [Nat.div_eq_of_lt h, Nat.mod_eq_of_lt h]
    · next h =>
      obtain ⟨c, rfl⟩ := Nat.exists_eq_add_of_le (Nat.le_of_not_lt h)
      rw [Nat.add_sub_cancel_left, ih, Nat.add_div_left c hn, Nat.add_mod_left, List.getElem?_cons_succ]

/-- The `n` places from `n * i` on are block `i`. -/
theorem take_drop_flatMap_blocks (hf : ∀ x, (f x).length = n) (l : List α) (i : Nat) (hi : i < l.length) :
    ((l.flatMap f).drop (n * i)).take n = f l[i] := by
  induction l generalizing i with
  | nil => cases hi
  | cons x l ih =>
    rw [List.flatMap_cons]
    cases i with
    | zero => simp [← hf x]
    | succ i =>
      rw [show n * (i + 1) = (f x).length + n * i by rw [hf, Nat.mul_succ, Nat.add_comm], List.drop_length_add_append]
      exact ih i (Nat.lt_of_succ_lt_succ hi)

/-- Replacing a block changes no place outside it, and within it only where the new block differs. -/
theorem getElem?_flatMap_set_blocks (hf : ∀ x, (f x).length = n) (hn : 0 < n) (l : List α) (i : Nat)
    (hi : i < l.length) (x : α) (a : Nat) (h : a / n = i → (f x)[a % n]? = (f l[i])[a % n]?) :
    ((l.set i x).flatMap f)[a]? = (l.flatMap f)[a]? := by
  rw [getElem?_flatMap_blocks hf hn, getElem?_flatMap_blocks hf hn]
  by_cases ha : a / n = i
  · simp [ha, hi, h ha]
  · rw [List.getElem?_set_ne (Ne.symm ha)]

end Blocks

/-- A place outside the `n` places from `n * i` on lies in another block. -/
theorem div_ne_of_outside {n i a : Nat} (hn : 0 < n) (h : ¬ (n * i ≤ a ∧ a < n * i + n)) : a / n ≠ i := by
  rintro rfl
  exact h ⟨Nat.mul_div_le a n, Nat.lt_mul_div_succ a hn⟩

end Sys2Proof.Machine
end

section
/-! Words and records read from bytes and put back as bytes (spec/00_scope.md R12, spec/40_frame_codec.md R131 to
R134). -/

namespace Sys2Proof.Machine
open Sys2Proof.Config Sys2Proof.Laws

/-- The four bytes of a word put together from bytes, lowest first. -/
theorem extract_append_bytes (x y z w : Byte) :
    (x ++ y ++ z ++ w : Word).extractLsb' 0 8 = w ∧ (x ++ y ++ z ++ w : Word).extractLsb' 8 8 = z ∧
    (x ++ y ++ z ++ w : Word).extractLsb' 16 8 = y ∧ (x ++ y ++ z ++ w : Word).extractLsb' 24 8 = x := by
  refine ⟨?_, ?_, ?_, ?_⟩
  · rw [extract_low _ w (Nat.le_refl 8), BitVec.extractLsb'_eq_self]
  · rw [extract_above _ w (k := 0), extract_low _ z (Nat.le_refl 8), BitVec.extractLsb'_eq_self]
  · rw [extract_above _ w (k := 8), extract_above _ z (k := 0), extract_low _ y (Nat.le_refl 8),
      BitVec.extractLsb'_eq_self]
  · rw [extract_above _ w (k := 16), extract_above _ z (k := 8), extract_high]

/-- A word read from four bytes puts the same four bytes back (R12). -/
theorem bytes32_word32 (e : Endian) {b : List Byte} (h : b.length = 4) : bytes32 e (word32 e b) = b := by
  match b, h with
  | [b₀, b₁, b₂, b₃], _ =>
    cases e with
    | le => simp [bytes32, word32, extract_append_bytes b₃ b₂ b₁ b₀]
    | be => simp [bytes32, word32, extract_append_bytes b₀ b₁ b₂ b₃]

/-- The words read from an image of `n` words put the image back (R131 to R134). -/
theorem flatMap_bytes32_wordAt (e : Endian) {n : Nat} {b : List Byte} (h : b.length = 4 * n) :
    (Vector.ofFn fun k : Fin n => wordAt e b k).toList.flatMap (bytes32 e) = b := by
  apply List.ext_getElem?
  intro a
  rw [getElem?_flatMap_blocks (bytes32_length e) (by decide), Vector.toList_ofFn]
  by_cases ha : a / 4 < n
  · have four : ((b.drop (4 * (a / 4))).take 4).length = 4 := by
      rw [List.length_take, List.length_drop]; omega
    have lt : a % 4 < 4 := Nat.mod_lt _ (by decide)
    simp [ha, wordAt, bytes32_word32 e four, lt, Nat.div_add_mod]
  · have out : b.length ≤ a := by omega
    simp [ha, out]

/-- The record read from a telemetry image has that image (R131, R132). -/
theorem encTel_decTel (e : Endian) {b : List Byte} (h : b.length = 40) : encTel e (decTel e b) = b :=
  flatMap_bytes32_wordAt e h

/-- The record read from a command image has that image (R133, R134). -/
theorem encCmd_decCmd (e : Endian) {b : List Byte} (h : b.length = 24) : encCmd e (decCmd e b) = b :=
  flatMap_bytes32_wordAt e h

/-- Word `k` of a telemetry record in its image (R131). -/
theorem take_drop_encTel (e : Endian) (r : TelRecord) (k : Fin 10) :
    ((encTel e r).drop (4 * k)).take 4 = bytes32 e r.w[k] := by
  simpa [encTel] using take_drop_flatMap_blocks (bytes32_length e) r.w.toList k (by simp)

/-- Word `k` of a command record in its image (R133). -/
theorem take_drop_encCmd (e : Endian) (r : CmdRecord) (k : Fin 6) :
    ((encCmd e r).drop (4 * k)).take 4 = bytes32 e r.w[k] := by
  simpa [encCmd] using take_drop_flatMap_blocks (bytes32_length e) r.w.toList k (by simp)

/-- A word put into a telemetry record leaves the other words' bytes. -/
theorem getElem?_encTel_set (e : Endian) (r : TelRecord) (k : Fin 10) (v : Word) {a : Nat} (h : a / 4 ≠ k) :
    (encTel e ⟨r.w.set k v⟩)[a]? = (encTel e r)[a]? := by
  simpa [encTel, Vector.toList_set] using getElem?_flatMap_set_blocks (bytes32_length e) (by decide) r.w.toList k
    (by simp) v a (absurd · h)

/-- A word put into a command record leaves the other words' bytes. -/
theorem getElem?_encCmd_set (e : Endian) (r : CmdRecord) (k : Fin 6) (v : Word) {a : Nat} (h : a / 4 ≠ k) :
    (encCmd e ⟨r.w.set k v⟩)[a]? = (encCmd e r)[a]? := by
  simpa [encCmd, Vector.toList_set] using getElem?_flatMap_set_blocks (bytes32_length e) (by decide) r.w.toList k
    (by simp) v a (absurd · h)

end Sys2Proof.Machine
end

section
/-! The byte view of the two arrays (spec/20_memory.md R60 to R64): what it reads, what a write through it is, and which
bytes a word or a record does not touch. -/

namespace Sys2Proof.Machine
open Sys2Proof.Config

/-! ### Reading -/

/-- The bytes of slot `i` of the telemetry space (R61). -/
theorem memRead_tel (s : State) (i : Fin 15) : memRead s .tel (40 * i) 40 = encTel s.params.endian s.tel[i] := by
  simpa [memRead, memImage] using take_drop_flatMap_blocks (encTel_length s.params.endian) s.tel.toList i (by simp)

/-- The bytes of slot `i` of the command space (R62). -/
theorem memRead_cmd (s : State) (i : Fin 15) : memRead s .cmd (24 * i) 24 = encCmd s.params.endian s.cmd[i] := by
  simpa [memRead, memImage] using take_drop_flatMap_blocks (encCmd_length s.params.endian) s.cmd.toList i (by simp)

/-- A read within a longer one. -/
theorem memRead_within (s : State) (sp : Arr) (a k : Nat) {m n : Nat} (h : k + m ≤ n) :
    memRead s sp (a + k) m = ((memRead s sp a n).drop k).take m := by
  rw [memRead, memRead, List.drop_take, List.drop_drop, List.take_take, Nat.min_eq_left (by omega)]

/-- The bytes of a word (R61, R62). -/
theorem memRead_word (s : State) (p : WordRef) :
    memRead s p.space p.addr 4 = bytes32 s.params.endian (s.readWord p) := by
  cases p with
  | tel i k => rw [WordRef.space, WordRef.addr, memRead_within s _ _ _ (n := 40) (by omega), memRead_tel,
      take_drop_encTel, State.readWord]
  | cmd i k => rw [WordRef.space, WordRef.addr, memRead_within s _ _ _ (n := 24) (by omega), memRead_cmd,
      take_drop_encCmd, State.readWord]

/-- A space is as long as its slots (R60). -/
theorem memImage_length (s : State) : (memImage s .tel).length = 600 ∧ (memImage s .cmd).length = 360 := by
  simp [memImage, List.length_flatMap]

/-! ### Writing -/

theorem memWrite_word (s : State) (p : WordRef) {b : List Byte} (h : b.length = 4) :
    memWrite s p.space p.addr b = some (s.writeWord (word32 s.params.endian b) p) := by
  cases p with
  | tel i k =>
    have slot : (40 * i.val + 4 * k) / 40 = i := by omega
    have word : (40 * i.val + 4 * k) % 40 / 4 = k := by omega
    simp only [memWrite, WordRef.space, WordRef.addr, slot, word, Fin.eta]
    rw [dif_pos (by omega), if_pos ⟨h, by omega⟩]
  | cmd i k =>
    have slot : (24 * i.val + 4 * k) / 24 = i := by omega
    have word : (24 * i.val + 4 * k) % 24 / 4 = k := by omega
    simp only [memWrite, WordRef.space, WordRef.addr, slot, word, Fin.eta]
    rw [dif_pos (by omega), if_pos ⟨h, by omega⟩]

theorem memWrite_tel (s : State) (i : Fin 15) {b : List Byte} (h : b.length = 40) :
    memWrite s .tel (40 * i) b = some (s.writeRecord i (.tel (decTel s.params.endian b))) := by
  have slot : 40 * i.val / 40 = i := by omega
  simp only [memWrite, slot, Fin.eta]
  rw [dif_pos (by omega), if_neg (by omega), if_pos ⟨h, by omega⟩]

theorem memWrite_cmd (s : State) (i : Fin 15) {b : List Byte} (h : b.length = 24) :
    memWrite s .cmd (24 * i) b = some (s.writeRecord i (.cmd (decCmd s.params.endian b))) := by
  have slot : 24 * i.val / 24 = i := by omega
  simp only [memWrite, slot, Fin.eta]
  rw [dif_pos (by omega), if_neg (by omega), if_pos ⟨h, by omega⟩]

/-- Settles O26, one access of the byte view after another. -/
theorem memoryViewFollowsTheByteMap : Obligations.MemoryViewFollowsTheByteMap := fun s =>
  ⟨memRead_word s, memRead_tel s, memRead_cmd s, fun p _ => memWrite_word s p, fun i _ => memWrite_tel s i,
    fun i _ => memWrite_cmd s i, memImage_length s⟩

/-! ### What a write sets and what it leaves as it was -/

/-- A written slot reads as its new record's image. -/
theorem memRead_writeRecord_tel (s : State) (i : Fin 15) (r : TelRecord) :
    memRead (s.writeRecord i (.tel r)) .tel (40 * i) 40 = encTel s.params.endian r := by
  simp [memRead_tel]

/-- As `memRead_writeRecord_tel`, for the other space. -/
theorem memRead_writeRecord_cmd (s : State) (i : Fin 15) (r : CmdRecord) :
    memRead (s.writeRecord i (.cmd r)) .cmd (24 * i) 24 = encCmd s.params.endian r := by
  simp [memRead_cmd]

/-- A record put into a telemetry slot changes only the bytes of the slot that its image changes. -/
theorem memByte_writeRecord_tel (s : State) (i : Fin 15) (r : TelRecord) {sp : Arr} {a : Nat}
    (h : sp = .tel → a / 40 = i →
      (encTel s.params.endian r)[a % 40]? = (encTel s.params.endian s.tel[i])[a % 40]?) :
    memByte (s.writeRecord i (.tel r)) sp a = memByte s sp a := by
  cases sp with
  | tel =>
    simpa [memByte, memImage, Vector.toList_set] using getElem?_flatMap_set_blocks
      (encTel_length s.params.endian) (by decide) s.tel.toList i (by simp) r a (by simpa using h rfl)
  | cmd => rfl

/-- A record put into a command slot changes only the bytes of the slot that its image changes. -/
theorem memByte_writeRecord_cmd (s : State) (i : Fin 15) (r : CmdRecord) {sp : Arr} {a : Nat}
    (h : sp = .cmd → a / 24 = i →
      (encCmd s.params.endian r)[a % 24]? = (encCmd s.params.endian s.cmd[i])[a % 24]?) :
    memByte (s.writeRecord i (.cmd r)) sp a = memByte s sp a := by
  cases sp with
  | tel => rfl
  | cmd =>
    simpa [memByte, memImage, Vector.toList_set] using getElem?_flatMap_set_blocks
      (encCmd_length s.params.endian) (by decide) s.cmd.toList i (by simp) r a (by simpa using h rfl)

/-- A written word changes no byte outside its four: a word write is a record write of the record with that word. -/
theorem memByte_writeWord (s : State) (v : Word) (p : WordRef) {sp : Arr} {a : Nat}
    (h : ¬ (sp = p.space ∧ p.addr ≤ a ∧ a < p.addr + 4)) : memByte (s.writeWord v p) sp a = memByte s sp a := by
  cases p with
  | tel i k =>
    refine memByte_writeRecord_tel s i ⟨s.tel[i].w.set k v⟩ fun hsp ha => getElem?_encTel_set _ _ k v fun hk => ?_
    exact h ⟨hsp, by simp only [WordRef.addr]; omega⟩
  | cmd i k =>
    refine memByte_writeRecord_cmd s i ⟨s.cmd[i].w.set k v⟩ fun hsp ha => getElem?_encCmd_set _ _ k v fun hk => ?_
    exact h ⟨hsp, by simp only [WordRef.addr]; omega⟩

/-- A word reads as it was last written (R13). -/
@[simp] theorem State.readWord_writeWord_same (s : State) (v : Word) (p : WordRef) :
    (s.writeWord v p).readWord p = v := by
  cases p <;> simp [State.readWord]

/-- The byte view sees the two arrays and the byte order alone. -/
theorem memImage_congr {s t : State} (htel : t.tel = s.tel) (hcmd : t.cmd = s.cmd) (hp : t.params = s.params) :
    memImage t = memImage s := by
  funext sp
  cases sp <;> simp only [memImage, htel, hcmd, hp]

/-! ### `TBL_WRITE` -/

/-- `TBL_WRITE` where it is carried out (R241). -/
theorem exec_tblWrite_of_some {s : State} {arr : Arr} {idx fld : BitVec 4} {p : WordRef} (v : Word)
    (hm : s.mode = .running) (ha : arr = localArr s.role) (hp : wordRef arr idx fld = some p) :
    exec (.tblWrite arr idx fld v) s = .next ((s.writeWord v p).accept 0) := by
  subst ha
  simp [exec, execTblWrite, hm, hp]

/-- Settles O15: the word reads back as written, and the response has no bytes. -/
theorem tblWriteChangesFourBytes : Obligations.TblWriteChangesFourBytes := by
  intro s t arr idx fld v p hm ha hp h
  obtain rfl : (s.writeWord v p).accept 0 = t := by
    simpa [exec_tblWrite_of_some v hm ha hp] using h
  have view : memImage ((s.writeWord v p).accept 0) = memImage (s.writeWord v p) := memImage_congr rfl rfl rfl
  have back : memRead (s.writeWord v p) p.space p.addr 4 = bytes32 s.params.endian v := by
    rw [memRead_word, State.readWord_writeWord_same, State.writeWord_params]
  simp only [memRead, memByte, view]
  exact ⟨back, fun sp a ho => memByte_writeWord s v p ho⟩

end Sys2Proof.Machine
end

section
/-! What received frames do to the owned array (spec/20_memory.md section 5, spec/42_receive_drain.md R166 to R177). -/

namespace Sys2Proof.Machine
open Sys2Proof.Config

/-! ### The record of a recognized frame -/

/-- A recognized frame's record is what its payload decodes to in the role's inbound category (R136, R169). -/
theorem decodeFrame_of_recognize {s : State} {f : RxFrame} {j : Fin 15} {r : Record} (h : recognize s f = some (j, r)) :
    decodeFrame s.params.endian (inbound s.role) f.data = some r := by
  unfold recognize at h
  split at h
  · cases h
  all_goals
    split at h
    · next hr =>
      obtain ⟨r', hd, he⟩ := Option.map_eq_some_iff.mp h
      cases he
      rw [hr, hd]
    · cases h

/-- In `RUNNING` the gate of R165 is open. -/
theorem rxFrame_of_running {s : State} (hm : s.mode = .running) (f : RxFrame) : s.rxFrame f = s.receive f := if_pos hm

/-- The byte view after a recognized frame is that after its record's write (R170). -/
theorem memImage_rxFrame {s : State} {f : RxFrame} {j : Fin 15} {r : Record} (hm : s.mode = .running)
    (h : recognize s f = some (j, r)) : memImage (s.rxFrame f) = memImage (s.writeRecord j r) := by
  rw [rxFrame_of_running hm, State.receive, h]
  cases r <;> rfl

/-- Settles O35: the slot reads as the image the record was decoded from, and no byte outside lies in the slot. -/
theorem receivedRecordChangesOnlyItsSlotsBytes : Obligations.ReceivedRecordChangesOnlyItsSlotsBytes := by
  intro s t f j r hm hrec h
  obtain rfl : s.rxFrame f = t := by simpa [exec, execRxFrame] using h
  have view := memImage_rxFrame hm hrec
  have dec := decodeFrame_of_recognize hrec
  simp only [memRead, memByte, view]
  constructor
  · intro hr
    simp only [hr, inbound, decodeFrame_telCat, Option.ite_none_right_eq_some, Option.some.injEq] at dec
    obtain ⟨hlen, rfl⟩ := dec
    have image := encTel_decTel s.params.endian (List.length_take_of_le hlen)
    exact ⟨(memRead_writeRecord_tel s j _).trans image, fun sp a ho => memByte_writeRecord_tel s j _ fun hsp ha =>
      absurd ha (div_ne_of_outside (by decide) fun hin => ho ⟨hsp, hin⟩)⟩
  · intro hr
    simp only [hr, inbound, decodeFrame_cmdCat, Option.ite_none_right_eq_some, Option.some.injEq] at dec
    obtain ⟨hlen, rfl⟩ := dec
    have image := encCmd_decCmd s.params.endian (List.length_take_of_le hlen)
    exact ⟨(memRead_writeRecord_cmd s j _).trans image, fun sp a ho => memByte_writeRecord_cmd s j _ fun hsp ha =>
      absurd ha (div_ne_of_outside (by decide) fun hin => ho ⟨hsp, hin⟩)⟩

/-! ### The owned array as records -/

/-- Slot `j` of the owned array (R27). -/
def State.ownedRecord (s : State) (j : Fin 15) : Record :=
  match s.role with
  | .hub => .tel s.tel[j]
  | .sat => .cmd s.cmd[j]

theorem State.ownedRecord_of_hub {s : State} (hr : s.role = .hub) (j : Fin 15) : s.ownedRecord j = .tel s.tel[j] := by
  simp [State.ownedRecord, hr]

theorem State.ownedRecord_of_sat {s : State} (hr : s.role = .sat) (j : Fin 15) : s.ownedRecord j = .cmd s.cmd[j] := by
  simp [State.ownedRecord, hr]

/-- A frame's record lands in the slot the frame resolved to (R170). -/
theorem ownedRecord_rxFrame_same {s : State} {f : RxFrame} {j : Fin 15} {r : Record} (hm : s.mode = .running)
    (h : recognize s f = some (j, r)) : (s.rxFrame f).ownedRecord j = r := by
  rw [rxFrame_of_running hm]
  obtain ⟨i, r', h', hr, e⟩ | ⟨i, r', h', hr, e⟩ | ⟨h', -⟩ := receive_cases s f
  case inr.inr => rw [h'] at h; cases h
  all_goals
    rw [h'] at h
    cases h
    simp [e, State.ownedRecord, hr]

/-- A frame that does not resolve to slot `j` leaves it as it was, recognized or not, in every mode. -/
theorem ownedRecord_rxFrame_of_ne {s : State} {f : RxFrame} {j : Fin 15}
    (h : ∀ (i : Fin 15) (r : Record), recognize s f = some (i, r) → i ≠ j) :
    (s.rxFrame f).ownedRecord j = s.ownedRecord j := by
  unfold State.rxFrame
  split
  · obtain ⟨i, r, h', hr, e⟩ | ⟨i, r, h', hr, e⟩ | ⟨-, e⟩ := receive_cases s f
    case inr.inr => rw [e]; rfl
    all_goals
      have ne : i.val ≠ j.val := Fin.val_ne_of_ne (h _ _ h')
      simp [e, State.ownedRecord, hr, Vector.getElem_set_ne, ne]
  · rfl

/-- Receiving a frame does not change which slot another resolves to. -/
theorem recognize_rxFrame (s : State) (f g : RxFrame) : recognize (s.rxFrame f) g = recognize s g :=
  recognize_congr g (by simp) (by simp) (by simp) (by simp)

/-- Nor does receiving any number of them. -/
theorem recognize_foldl_rxFrame (fs : List RxFrame) (s : State) (g : RxFrame) :
    recognize (fs.foldl State.rxFrame s) g = recognize s g := by
  obtain ⟨-, hr, -, ht, hc, -, hp, -⟩ := foldl_rxFrame_frame fs s
  exact recognize_congr g hr ht hc hp

/-- Frames that do not resolve to slot `j` leave it as it was. -/
theorem ownedRecord_foldl_rxFrame_of_ne {gs : List RxFrame} {s : State} {j : Fin 15}
    (h : ∀ g ∈ gs, ∀ (i : Fin 15) (r : Record), recognize s g = some (i, r) → i ≠ j) :
    (gs.foldl State.rxFrame s).ownedRecord j = s.ownedRecord j := by
  induction gs generalizing s with
  | nil => rfl
  | cons g gs ih =>
    obtain ⟨hg, hgs⟩ := List.forall_mem_cons.mp h
    rw [List.foldl_cons, ih, ownedRecord_rxFrame_of_ne hg]
    intro g' hg' i r hrec
    exact hgs g' hg' i r (by rwa [recognize_rxFrame] at hrec)

/-- Settles O40: the frame before `gs` wrote the slot, and none of `gs` writes it again. -/
theorem lastWriteWins : Obligations.LastWriteWins := by
  intro s fs gs f j r hm hrec hgs
  obtain ⟨hmode, -⟩ := foldl_rxFrame_frame fs s
  obtain ⟨-, hrole, -⟩ := foldl_rxFrame_frame (fs ++ f :: gs) s
  have last : ((fs ++ f :: gs).foldl State.rxFrame s).ownedRecord j = r := by
    rw [List.foldl_append, List.foldl_cons, ownedRecord_foldl_rxFrame_of_ne, ownedRecord_rxFrame_same]
    · rw [hmode, hm]
    · rw [recognize_foldl_rxFrame, hrec]
    · intro g hg i r' h
      exact hgs g hg i r' (by rwa [recognize_rxFrame, recognize_foldl_rxFrame] at h)
  refine ⟨_, execAll_rxFrames _ s, fun hr => ?_, fun hr => ?_⟩
  · rw [← last, State.ownedRecord_of_hub (hrole.trans hr)]
  · rw [← last, State.ownedRecord_of_sat (hrole.trans hr)]

/-! ### An activation -/

/-- Of frames up to an `Empty`, an `Err` or the end, an activation drains all, and it uses up the answer it ends on
(R166, R173). -/
theorem drained_append {stop : List RxAnswer} (h : stop = [] ∨ stop.head? = some .empty ∨ stop.head? = some .err)
    (fs : List RxFrame) : drained (fs.map RxAnswer.frame ++ stop) = fs ∧
      undrained (fs.map RxAnswer.frame ++ stop) = stop.tail := by
  induction fs with
  | nil =>
    obtain rfl | h | h := h
    case inl => exact ⟨rfl, rfl⟩
    all_goals
      obtain ⟨rest, rfl⟩ := List.head?_eq_some_iff.mp h
      exact ⟨rfl, rfl⟩
  | cons f fs ih =>
    obtain ⟨hd, hu⟩ := ih
    exact ⟨congrArg (f :: ·) hd, hu⟩

/-- Settles O38: an activation and its frames as events are the same fold. -/
theorem activationIsItsFramesOneByOne : Obligations.ActivationIsItsFramesOneByOne := by
  intro s fs stop hm has hstop
  refine ⟨_, ?_, execAll_rxFrames fs _⟩
  obtain ⟨hd, hu⟩ := drained_append hstop fs
  simp only [exec, execRxAct, if_pos hm]
  rw [drain_eq_foldl, has, hd, hu]

/-! ### One step -/

/-- A step with no event to come leaves the block as it is (R331). -/
theorem step_of_inbox_nil {s : State} (h : s.env.inbox = []) : step s = .next s := by
  simp [step, State.nextTransfer, h]

/-- A step takes the next event and performs what it decodes to (R70). -/
theorem step_of_inbox_cons {s : State} {x : Transfer} {rest : List Transfer} {i : Instr}
    (h : s.env.inbox = x :: rest) (hx : decode x = .ok i) :
    step s = exec i { s with env := { s.env with inbox := rest } } := by
  simp [step, State.nextTransfer, h, hx]

/-- Settles O6, by whether an event is to come. -/
theorem stepRunsTheDecodedInstruction : Obligations.StepRunsTheDecodedInstruction :=
  ⟨fun _ _ _ _ h hx _ => step_of_inbox_cons h hx, fun _ => step_of_inbox_nil⟩

end Sys2Proof.Machine
end

section
/-! Host requests (spec/30_encoding.md R100, R101): which bits of a request and of `wdata` each operation reads. -/

namespace Sys2Proof.Machine
open Sys2Proof.Laws

/-- `INIT` ignores bits [31:24] of the configuration word (R101). -/
theorem decodeConfig_congr {v v' : Word} (h : v.extractLsb' 0 24 = v'.extractLsb' 0 24) :
    decodeConfig v = decodeConfig v' := by
  have field {k n : Nat} (hk : k + n ≤ 24) : v.extractLsb' k n = v'.extractLsb' k n := by
    rw [← BitVec.extractLsb'_extractLsb'_of_le hk, h, BitVec.extractLsb'_extractLsb'_of_le hk]
  have bit {k : Nat} (hk : k + 1 ≤ 24) : v.getLsbD k = v'.getLsbD k := by
    rw [getLsbD_of_extract (field hk), ← getLsbD_of_extract rfl]
  rw [decodeConfig, decodeConfig, bit (k := 0) (by decide), bit (k := 1) (by decide),
    field (k := 2) (n := 11) (by decide), field (k := 13) (n := 11) (by decide)]

/-- The array of a request is its bit 27 (R100). -/
theorem decodeArr_congr {req req' : Word} (h : req.getLsbD 27 = req'.getLsbD 27) : decodeArr req = decodeArr req' := by
  rw [decodeArr, decodeArr, h]

/-- Settles O3, one operation code after another: the decoder reads no field that the code does not use. -/
theorem unusedRequestFieldsAreIgnored : Obligations.UnusedRequestFieldsAreIgnored := by
  intro req req' wdata wdata' hop hidx harr himm hcfg hdata
  simp only [← BitVec.toNat_inj (x := req.extractLsb' 28 4), List.mem_cons, List.not_mem_nil, or_false]
    at hidx harr himm hcfg hdata
  simp only [decode, decodeRequest, ← hop]
  split
  case h_1 | h_3 | h_4 | h_11 | h_12 | h_13 | h_14 | h_15 | h_16 => rfl
  case h_2 op => rw [decodeConfig_congr (hcfg op)]
  case h_5 op | h_6 op => rw [hidx (by simp [op])]
  case h_7 op | h_10 op => rw [himm (by simp [op])]
  case h_8 op =>
    obtain ⟨ha, hf⟩ := harr (by simp [op])
    rw [decodeArr_congr ha, hidx (by simp [op]), hf]
  case h_9 op =>
    obtain ⟨ha, hf⟩ := harr (by simp [op])
    rw [decodeArr_congr ha, hidx (by simp [op]), hf, hdata op]

/-- Every request word is an operation, every operand as wide as its field (R100). -/
theorem decodeRequest_wellFormed (req wdata : Word) : (decodeRequest req wdata).wellFormed = true := by
  unfold decodeRequest
  split <;> rfl

end Sys2Proof.Machine
end

section
/-! The default rows of received frames (spec/30_encoding.md R108): match and mask as ranges of identifiers. -/

namespace Sys2Proof.Machine
open Sys2Proof.Laws Sys2Proof.Config

/-- An identifier is its high seven bits and its low four. -/
theorem ident_eq_append (id : Ident) : id = id.extractLsb' 4 7 ++ id.extractLsb' 0 4 :=
  (BitVec.extractLsb'_append_extractLsb' (w := 7) (len := 4)).symm

/-- Under mask 0x7F0 an identifier matches a multiple of 16 exactly when its high seven bits do (R108). -/
theorem and_mask_eq_iff (id : Ident) (hi : BitVec 7) : id &&& 0x7F0 = hi ++ 0#4 ↔ id.extractLsb' 4 7 = hi := by
  have masked : id &&& 0x7F0 = id.extractLsb' 4 7 ++ 0#4 := by
    conv_lhs => rw [ident_eq_append id, show (0x7F0 : Ident) = BitVec.allOnes 7 ++ 0#4 from rfl, BitVec.and_append]
    rw [BitVec.and_allOnes, BitVec.and_zero]
  rw [masked, BitVec.append_left_inj]

/-- A row of match `hi ++ 0`, mask 0x7F0 and low four bits not 0xF is the 15 identifiers from its match on (R108). -/
theorem row_iff_range (id : Ident) (hi : BitVec 7) : id &&& 0x7F0 = hi ++ 0#4 ∧ id.extractLsb' 0 4 ≠ 0xF ↔
    (hi ++ 0#4).toNat ≤ id.toNat ∧ id.toNat ≤ (hi ++ 0#4).toNat + 14 := by
  have value : id.toNat = (id.extractLsb' 4 7).toNat * 16 + (id.extractLsb' 0 4).toNat := by
    conv_lhs => rw [ident_eq_append id]
    exact toNat_append_eq_add _ _
  have low_lt : (id.extractLsb' 0 4).toNat < 16 := BitVec.isLt _
  rw [and_mask_eq_iff, ← BitVec.toNat_inj, ne_eq, ← BitVec.toNat_inj (y := 0xF), toNat_append_eq_add, value]
  simp only [BitVec.ofNat_eq_ofNat, BitVec.toNat_ofNat]
  omega

theorem isDefaultTel_iff_range (id : Ident) : isDefaultTel id = true ↔ 0x200 ≤ id.toNat ∧ id.toNat ≤ 0x20E := by
  simpa [isDefaultTel] using row_iff_range id 0x20

theorem isDefaultCmd_iff_range (id : Ident) : isDefaultCmd id = true ↔ 0x300 ≤ id.toNat ∧ id.toNat ≤ 0x30E := by
  simpa [isDefaultCmd] using row_iff_range id 0x30

/-- No identifier lies in both default rows. -/
theorem isDefaultTel_eq_false_of_cmd {id : Ident} (h : isDefaultCmd id = true) : isDefaultTel id = false := by
  rw [isDefaultCmd_iff_range] at h
  rw [Bool.eq_false_iff, ne_eq, isDefaultTel_iff_range]
  omega

/-- The telemetry class is the telemetry range (R151). -/
theorem exists_classify_eq_tel_iff (bt bc id : Ident) :
    (∃ k, classify bt bc id = .tel k) ↔ bt.toNat ≤ id.toNat ∧ id.toNat ≤ bt.toNat + 14 := by
  obtain ⟨k, h, hid⟩ | ⟨k, h, -, hout⟩ | ⟨h, hout, -⟩ := classify_cases bt bc id
  · simp only [h, SlotKind.tel.injEq, exists_eq', true_iff]
    omega
  · simpa [h] using hout
  · simpa [h] using hout

/-- The command class is what the telemetry range leaves of the command range (R151). -/
theorem exists_classify_eq_cmd_iff (bt bc id : Ident) : (∃ k, classify bt bc id = .cmd k) ↔
    (bc.toNat ≤ id.toNat ∧ id.toNat ≤ bc.toNat + 14) ∧ ¬ (bt.toNat ≤ id.toNat ∧ id.toNat ≤ bt.toNat + 14) := by
  obtain ⟨k, h, hid⟩ | ⟨k, h, hid, hout⟩ | ⟨h, -, hout⟩ := classify_cases bt bc id
  · simp only [h, reduceCtorEq, exists_false, false_iff]
    omega
  · simp only [h, SlotKind.cmd.injEq, exists_eq', true_iff]
    omega
  · simp only [h, reduceCtorEq, exists_false, false_iff]
    omega

/-- Settles O5: rows and classes are the same ranges, 0x200 to 0x20E and 0x300 to 0x30E. -/
theorem defaultRowsAreTheDefaultRanges : Obligations.DefaultRowsAreTheDefaultRanges := by
  intro id
  have bt : defaultBaseT.toNat = 0x200 := rfl
  have bc : defaultBaseC.toNat = 0x300 := rfl
  rw [isDefaultTel_iff_range, isDefaultCmd_iff_range, exists_classify_eq_tel_iff, exists_classify_eq_cmd_iff, bt, bc]
  omega

end Sys2Proof.Machine
end

section
/-! The decoder at every port (spec/30_encoding.md R91, R92, R100, R108, R110): what it accepts is well formed, and it
gives back whatever well-formed instruction was encoded. -/

namespace Sys2Proof.Machine
open Sys2Proof.Laws

/-! ### Received frames -/

/-- A frame as long as its length code says is read back from its header and payload (R91). -/
theorem decodeRxFrame_rxHeader {f : RxFrame} (h : f.wellFormed = true) : decodeRxFrame (rxHeader f) f.data = .ok f := by
  simp [decodeRxFrame, rxHeader_reserved, rxFrameOf_rxHeader, h]

/-- A frame that the receive port accepts, under whichever row, is as long as its length code says (R91). -/
theorem exists_of_map_decodeRxFrame {hdr : Word} {data : List Byte} {row : RxFrame → Instr} {i : Instr}
    (h : (decodeRxFrame hdr data).map row = .ok i) : ∃ f : RxFrame, f.wellFormed = true ∧ row f = i := by
  unfold decodeRxFrame at h
  split at h
  · cases h
  · split at h
    · next hf => exact ⟨_, hf, Except.ok.inj h⟩
    · cases h

theorem rxdRow_of_tel {f : RxFrame} (h : isDefaultTel f.id = true) : rxdRow f = .rxdTel f := if_pos h

theorem rxdRow_of_cmd {f : RxFrame} (h : isDefaultCmd f.id = true) : rxdRow f = .rxdCmd f := by
  simp [rxdRow, h, isDefaultTel_eq_false_of_cmd h]

theorem rxdRow_of_neither {f : RxFrame} (ht : isDefaultTel f.id = false) (hc : isDefaultCmd f.id = false) :
    rxdRow f = .rxdUnrec f := by
  simp [rxdRow, ht, hc]

/-- A frame lies in the class of the row it is sorted into (R108). -/
theorem rxdRow_wellFormed {f : RxFrame} (h : f.wellFormed = true) : (rxdRow f).wellFormed = true := by
  cases ht : isDefaultTel f.id with
  | true => rw [rxdRow_of_tel ht, Instr.wellFormed, h, ht]; rfl
  | false =>
    cases hc : isDefaultCmd f.id with
    | true => rw [rxdRow_of_cmd hc, Instr.wellFormed, h, hc]; rfl
    | false => rw [rxdRow_of_neither ht hc, Instr.wellFormed, h, ht, hc]; rfl

/-! ### Transmitted frames -/

/-- What the transmit port accepts has the length and the padding of its row (R92, R97, R99). -/
theorem wellFormed_of_decodeTxd {hdr : Word} {data : List Byte} {i : Instr} (h : decodeTxd hdr data = .ok i) :
    i.wellFormed = true := by
  unfold decodeTxd at h
  split at h
  case h_1 =>
    split at h
    · cases h
    · cases h
      simpa [Instr.wellFormed] using ‹¬ data.length ≠ 24›
  case h_2 =>
    split at h
    · cases h
    · split at h <;> cases h
      rfl
  case h_3 =>
    split at h
    · cases h
    · split at h
      · cases h
      · cases h
        simp_all [Instr.wellFormed]
  case h_4 => cases h

/-! ### Every port -/

/-- Settles O4, port by port. -/
theorem decodedInstructionsAreWellFormed : Obligations.DecodedInstructionsAreWellFormed := by
  intro x i h
  cases x with
  | rst | tickIrq | rxIrq | rxErr => cases h; rfl
  | host req wdata => cases h; exact decodeRequest_wellFormed req wdata
  | txd hdr data => exact wellFormed_of_decodeTxd h
  | rxFrame hdr data =>
    obtain ⟨f, hf, rfl⟩ := exists_of_map_decodeRxFrame h
    exact hf
  | rxd hdr data =>
    obtain ⟨f, hf, rfl⟩ := exists_of_map_decodeRxFrame h
    exact rxdRow_wellFormed hf

/-- Settles O2, row by row: the fields of a word are read back from their own bits, and a frame's row is its class. -/
theorem decodeEncodeRoundTrip : Obligations.DecodeEncodeRoundTrip := by
  intro i h
  cases i with
  | nop | consumeTicks | getDiag | reservedA | reservedB | reservedC | reservedD | reservedE | reservedF =>
    simp [decode, encode, request, decodeRequest, requestWord_op]
  | init cfg => simp [decode, encode, request, decodeRequest, requestWord_op, decodeConfig_encodeConfig]
  | sendCmd | sendTel => simp [decode, encode, request, decodeRequest, requestWord_op, requestWord_idx]
  | sendKeepalive | rdCsr => simp [decode, encode, request, decodeRequest, requestWord_op, requestWord_imm]
  | tblRead | tblWrite =>
    simp [decode, encode, request, decodeRequest, requestWord_op, decodeArr_requestWord, requestWord_idx,
      requestWord_fld]
  | tick | rxAct | rxErr | reset => rfl
  | rxFrame f =>
    rw [encode, decode, decodeRxFrame_rxHeader h]
    rfl
  | rxdTel f =>
    obtain ⟨hf, ht⟩ := Bool.and_eq_true_iff.mp h
    rw [encode, decode, decodeRxFrame_rxHeader hf, ← rxdRow_of_tel ht]
    rfl
  | rxdCmd f =>
    obtain ⟨hf, hc⟩ := Bool.and_eq_true_iff.mp h
    rw [encode, decode, decodeRxFrame_rxHeader hf, ← rxdRow_of_cmd hc]
    rfl
  | rxdUnrec f =>
    simp only [Instr.wellFormed, Bool.and_eq_true, Bool.not_eq_true'] at h
    obtain ⟨⟨hf, ht⟩, hc⟩ := h
    rw [encode, decode, decodeRxFrame_rxHeader hf, ← rxdRow_of_neither ht hc]
    rfl
  | txdCmd id data =>
    have hlen : data.length = 24 := by simpa [Instr.wellFormed] using h
    simp [decode, encode, decodeTxd, txHeader_high, txHeader_id, hlen]
  | txdKa id => simp [decode, encode, decodeTxd, txHeader_high, txHeader_id]
  | txdTel id data =>
    obtain ⟨hlen, hpad⟩ : data.length = 48 ∧ data.drop 40 = zeros 8 := by simpa [Instr.wellFormed] using h
    simp [decode, encode, decodeTxd, txHeader_high, txHeader_id, hlen, hpad]

/-- Settles O1, by running the decoder on each word. -/
theorem decodeReadsSampleWords : Obligations.DecodeReadsSampleWords :=
  ⟨rfl, rfl, rfl, rfl, rfl, rfl, rfl, rfl, rfl, rfl⟩

end Sys2Proof.Machine
end

section
/-! The payloads of outbound frames (spec/44_transmit_assembler.md R206 to R209): their length, index word and padding, and
which payloads the block could have built itself. -/

namespace Sys2Proof.Machine
open Sys2Proof.Config

/-! ### The index word -/

/-- A word is read back from its bytes (R12). -/
theorem word32_bytes32 (e : Endian) (w : Word) : word32 e (bytes32 e w) = w := by
  have bytes : w.extractLsb' 24 8 ++ w.extractLsb' 16 8 ++ w.extractLsb' 8 8 ++ w.extractLsb' 0 8 = w := by
    rw [BitVec.extractLsb'_append_extractLsb'_eq_extractLsb' (show 24 = 16 + 8 from rfl),
      BitVec.extractLsb'_append_extractLsb'_eq_extractLsb' (show 16 = 8 + 8 from rfl),
      BitVec.extractLsb'_append_extractLsb'_eq_extractLsb' (show 8 = 0 + 8 from rfl)]
    exact BitVec.extractLsb'_eq_self
  cases e <;> exact bytes

/-- A command image begins with the record's index (R133). -/
theorem word32_take_encCmd (e : Endian) (r : CmdRecord) : word32 e ((encCmd e r).take 4) = r.index :=
  (congrArg (word32 e) (take_drop_encCmd e r 0)).trans (word32_bytes32 e _)

/-- A telemetry image begins with the record's index (R131). -/
theorem word32_take_encTel (e : Endian) (r : TelRecord) : word32 e ((encTel e r).take 4) = r.index :=
  (congrArg (word32 e) (take_drop_encTel e r 0)).trans (word32_bytes32 e _)

theorem index_decCmd (e : Endian) (b : List Byte) : (decCmd e b).index = word32 e (b.take 4) := by
  simp [decCmd, CmdRecord.index, wordAt]

theorem index_decTel (e : Endian) (b : List Byte) : (decTel e b).index = word32 e (b.take 4) := by
  simp [decTel, TelRecord.index, wordAt]

@[simp] theorem CmdRecord.index_withIndex (r : CmdRecord) (i : Word) : (r.withIndex i).index = i := by
  simp [CmdRecord.index, CmdRecord.withIndex]

@[simp] theorem TelRecord.index_withIndex (r : TelRecord) (i : Word) : (r.withIndex i).index = i := by
  simp [TelRecord.index, TelRecord.withIndex]

/-- Forcing the index that a record has already changes nothing (R17). -/
theorem CmdRecord.withIndex_of_index {r : CmdRecord} {i : Word} (h : r.index = i) : r.withIndex i = r := by
  subst h
  simp [CmdRecord.withIndex, CmdRecord.index]

/-- As `CmdRecord.withIndex_of_index`. -/
theorem TelRecord.withIndex_of_index {r : TelRecord} {i : Word} (h : r.index = i) : r.withIndex i = r := by
  subst h
  simp [TelRecord.withIndex, TelRecord.index]

/-! ### Telemetry payloads (R135) -/

@[simp] theorem telPayload_length (e : Endian) (r : TelRecord) : (telPayload e r).length = 48 := by
  simp [telPayload]

/-- A telemetry payload ends with its padding. -/
theorem drop_telPayload (e : Endian) (r : TelRecord) : (telPayload e r).drop 40 = zeros 8 :=
  List.drop_left' (encTel_length e r)

/-- A telemetry payload begins with the record's index. -/
theorem word32_take_telPayload (e : Endian) (r : TelRecord) : word32 e ((telPayload e r).take 4) = r.index := by
  rw [telPayload, List.take_append_of_le_length (by simp), word32_take_encTel]

/-- A telemetry record is read from the first 40 bytes of a payload alone (R132). -/
theorem decTel_take (e : Endian) (b : List Byte) : decTel e (b.take 40) = decTel e b := by
  have word (k : Fin 10) : wordAt e (b.take 40) k = wordAt e b k := by
    rw [wordAt, wordAt, List.drop_take, List.take_take, Nat.min_eq_left (by omega)]
  simp only [decTel, word]

/-! ### Which payloads the block builds -/

/-- A payload is that of the record in it, the index forced, exactly when it has a command's length and its index word is
the forced one already (R206, R207). -/
theorem eq_cmdPayload_iff {e : Endian} {b : List Byte} {i : Word} :
    b = cmdPayload e ((decCmd e b).withIndex i) ↔ b.length = 24 ∧ word32 e (b.take 4) = i := by
  constructor
  · intro h
    rw [h]
    exact ⟨encCmd_length _ _, (word32_take_encCmd _ _).trans (CmdRecord.index_withIndex _ _)⟩
  · rintro ⟨hlen, hidx⟩
    rw [CmdRecord.withIndex_of_index ((index_decCmd e b).trans hidx), cmdPayload, encCmd_decCmd e hlen]

/-- The same for telemetry, whose index is forced only under `TEL_FORCE_INDEX` (R208). -/
theorem eq_telPayload_iff {e : Endian} {b : List Byte} {force : Bool} {i : Word} :
    b = telPayload e (if force then (decTel e b).withIndex i else decTel e b) ↔
      b.length = 48 ∧ b.drop 40 = zeros 8 ∧ (force = true → word32 e (b.take 4) = i) := by
  constructor
  · intro h
    rw [h]
    exact ⟨telPayload_length _ _, drop_telPayload _ _, fun hf => by simp [word32_take_telPayload, hf]⟩
  · rintro ⟨hlen, hpad, hidx⟩
    have unforced : (if force then (decTel e b).withIndex i else decTel e b) = decTel e b := by
      split
      · exact TelRecord.withIndex_of_index ((index_decTel e b).trans (hidx ‹_›))
      · rfl
    rw [unforced, telPayload, ← decTel_take, encTel_decTel e (List.length_take_of_le (by omega)), ← hpad,
      List.take_append_drop]

end Sys2Proof.Machine
end

section
/-! Frames of format TXD as events of their own (spec/30_encoding.md R92; log entry 6). -/

namespace Sys2Proof.Machine

/-- Which command frames a hub could have built, by identifier, length and index word (R206, R207). -/
theorem buildsCmd_txFrame_iff {s : State} {id : Ident} {data : List Byte} :
    s.buildsCmd (txFrame id 12 data) = true ↔ ∃ i : Fin 15, id = BitVec.ofNat 11 (s.baseC.toNat + i) ∧
      data.length = 24 ∧ word32 s.params.endian (data.take 4) = BitVec.ofNat 32 i := by
  simp [buildsCmd_iff, txFrame, buildCmd, eq_cmdPayload_iff]

/-- Which telemetry frames a satellite could have built (R208). -/
theorem buildsTel_txFrame_iff {s : State} {id : Ident} {data : List Byte} :
    s.buildsTel (txFrame id 14 data) = true ↔ ∃ i : Fin 15, id = BitVec.ofNat 11 (s.baseT.toNat + i) ∧
      data.length = 48 ∧ data.drop 40 = zeros 8 ∧
      (s.params.telForceIndex = true → word32 s.params.endian (data.take 4) = BitVec.ofNat 32 i) := by
  simp [buildsTel_iff, txFrame, buildTel, eq_telPayload_iff]

/-- An allowed frame is pushed in `RUNNING` (R211). -/
theorem offer_of_allowed {s : State} {b : Bool} (hm : s.mode = .running) (hb : b = true) (g : TxFrame) :
    s.offer b g = s.txPush g := if_pos ⟨hm, hb⟩

/-- Outside `RUNNING`, or where it is not allowed, a frame is not offered (R210). -/
theorem offer_of_not {s : State} {b : Bool} (h : s.mode ≠ .running ∨ b ≠ true) (g : TxFrame) : s.offer b g = s :=
  if_neg (not_and_or.mpr h)

/-- Settles O47: a frame is pushed where the state could have built it, and only there. -/
theorem txdFramesAreOffered : Obligations.TxdFramesAreOffered := by
  intro s
  refine ⟨?_, ?_, ?_, ?_, ?_, ?_⟩
  · rintro i r id data hm hr rfl rfl
    have builds := buildsCmd_txFrame_iff.mpr ⟨i, rfl, encCmd_length s.params.endian (r.withIndex (BitVec.ofNat 32 i)),
      (word32_take_encCmd _ _).trans (CmdRecord.index_withIndex _ _)⟩
    exact congrArg _ (offer_of_allowed hm (decide_eq_true ⟨hr, builds⟩) _)
  · rintro i r id data hm hr rfl rfl hforced
    have builds := buildsTel_txFrame_iff.mpr ⟨i, rfl, telPayload_length s.params.endian r, drop_telPayload _ _,
      fun hf => (word32_take_telPayload _ _).trans (hforced hf)⟩
    exact congrArg _ (offer_of_allowed hm (decide_eq_true ⟨hr, builds⟩) _)
  · intro id hm
    exact congrArg _ (offer_of_allowed hm rfl _)
  · intro id data h
    rw [← buildsCmd_txFrame_iff] at h
    refine congrArg _ (offer_of_not (h.imp_right fun h => ?_) _)
    rw [ne_eq, decide_eq_true_eq, not_and_or]
    exact h.imp_left fun hr => by simp [hr]
  · intro id data h
    rw [← buildsTel_txFrame_iff] at h
    refine congrArg _ (offer_of_not (h.imp_right fun h => ?_) _)
    rw [ne_eq, decide_eq_true_eq, not_and_or]
    exact h.imp_left fun hr => by simp [hr]
  · intro id hm
    exact congrArg _ (offer_of_not (.inl hm) _)

end Sys2Proof.Machine
end

section
/-! What leaves the block (spec/44_transmit_assembler.md R205 to R216): every operation and event pushes nothing, or one
frame of a kind that the block's role sends. -/

namespace Sys2Proof.Machine

/-- The roles that send a kind of frame (R210). -/
def FrameKind.SentBy : FrameKind → Role → Prop
  | .cmd _ _, role => role = .hub
  | .tel _ _, role => role = .sat
  | .ka _, _ => True

/-- `Transmits s t`: what becomes of the transmit side from `s` to `t`, tied to `exec` by `exec_transmits`. -/
inductive Transmits (s t : State) : Prop where
  /-- no `TxPush` -/
  | silent (hsent : t.env.sent = s.env.sent) (hpushes : t.env.txPushes = s.env.txPushes)
  /-- one `TxPush` of a frame that `BuildFrame` gives (R205, R211) -/
  | pushed (k : FrameKind) (hm : s.mode = .running) (hk : k.SentBy s.role)
      (hsent : t.env.sent =
        if s.txAnswer then s.env.sent ++ [buildFrame s.params s.baseT s.baseC k] else s.env.sent)
      (hpushes : t.env.txPushes = s.env.txPushes + 1)

/-! ### Each meaning transmits so -/

section Meanings
variable (s : State)

theorem send_transmits {k : FrameKind} (hm : s.mode = .running) (hk : k.SentBy s.role) : Transmits s (s.send k) := by
  rw [send_eq]
  exact .pushed k hm hk rfl rfl

theorem execSendCmd_transmits (idx : BitVec 4) : ∃ t, execSendCmd idx s = .next t ∧ Transmits s t := by
  unfold execSendCmd
  split
  · exact ⟨_, rfl, .silent rfl rfl⟩
  · split
    · exact ⟨_, rfl, .silent rfl rfl⟩
    · split
      · exact ⟨_, rfl, .silent rfl rfl⟩
      · exact ⟨_, rfl, send_transmits s (not_ne_iff.mp ‹¬ s.mode ≠ .running›) (not_ne_iff.mp ‹¬ s.role ≠ .hub›)⟩

theorem execSendTel_transmits (idx : BitVec 4) : ∃ t, execSendTel idx s = .next t ∧ Transmits s t := by
  unfold execSendTel
  split
  · exact ⟨_, rfl, .silent rfl rfl⟩
  · split
    · exact ⟨_, rfl, .silent rfl rfl⟩
    · split
      · exact ⟨_, rfl, .silent rfl rfl⟩
      · exact ⟨_, rfl, send_transmits s (not_ne_iff.mp ‹¬ s.mode ≠ .running›) (not_ne_iff.mp ‹¬ s.role ≠ .sat›)⟩

theorem execSendKeepalive_transmits (id : Ident) : ∃ t, execSendKeepalive id s = .next t ∧ Transmits s t := by
  unfold execSendKeepalive
  split
  · exact ⟨_, rfl, .silent rfl rfl⟩
  · exact ⟨_, rfl, send_transmits s (not_ne_iff.mp ‹_›) trivial⟩

theorem execTxdCmd_transmits (id : Ident) (data : List Byte) : ∃ t, execTxdCmd id data s = .next t ∧ Transmits s t := by
  obtain ⟨i, r, hm, hr, -, h⟩ | h := execTxdCmd_cases id data s
  · exact ⟨_, h, .pushed (.cmd i r) hm hr rfl rfl⟩
  · exact ⟨_, h, .silent rfl rfl⟩

theorem execTxdTel_transmits (id : Ident) (data : List Byte) : ∃ t, execTxdTel id data s = .next t ∧ Transmits s t := by
  obtain ⟨i, r, hm, hr, -, h⟩ | h := execTxdTel_cases id data s
  · exact ⟨_, h, .pushed (.tel i r) hm hr rfl rfl⟩
  · exact ⟨_, h, .silent rfl rfl⟩

theorem execTxdKa_transmits (id : Ident) : ∃ t, execTxdKa id s = .next t ∧ Transmits s t := by
  obtain ⟨hm, -, h⟩ | h := offer_cases s true (buildKa id)
  · exact ⟨_, congrArg Host.Outcome.next h, .pushed (.ka id) hm trivial rfl rfl⟩
  · exact ⟨_, congrArg Host.Outcome.next h, .silent rfl rfl⟩

theorem execInit_transmits (cfg : RoleConfig) : ∃ t, execInit cfg s = .next t ∧ Transmits s t := by
  unfold execInit
  split
  · exact ⟨_, rfl, .silent rfl rfl⟩
  · split
    · exact ⟨_, rfl, .silent rfl rfl⟩
    · split <;> exact ⟨_, rfl, .silent rfl rfl⟩

theorem execGetDiag_transmits : ∃ t, execGetDiag s = .next t ∧ Transmits s t := by
  unfold execGetDiag
  split <;> exact ⟨_, rfl, .silent rfl rfl⟩

theorem execTblRead_transmits (arr : Arr) (idx fld : BitVec 4) :
    ∃ t, execTblRead arr idx fld s = .next t ∧ Transmits s t := by
  unfold execTblRead
  split <;> exact ⟨_, rfl, .silent rfl rfl⟩

theorem execTblWrite_transmits (arr : Arr) (idx fld : BitVec 4) (v : Word) :
    ∃ t, execTblWrite arr idx fld v s = .next t ∧ Transmits s t := by
  unfold execTblWrite
  split
  · exact ⟨_, rfl, .silent rfl rfl⟩
  · split
    · exact ⟨_, rfl, .silent rfl rfl⟩
    · split
      · exact ⟨_, rfl, .silent rfl rfl⟩
      · exact ⟨_, rfl, .silent (by simp [State.accept]) (by simp [State.accept])⟩

theorem execRdCsr_transmits (imm : BitVec 11) : ∃ t, execRdCsr imm s = .next t ∧ Transmits s t := by
  unfold execRdCsr
  split <;> exact ⟨_, rfl, .silent rfl rfl⟩

theorem execTick_transmits : ∃ t, execTick s = .next t ∧ Transmits s t := by
  unfold execTick
  split
  · exact ⟨_, rfl, .silent (by simp) (by simp)⟩
  · exact ⟨_, rfl, .silent rfl rfl⟩

theorem execRxAct_transmits : ∃ t, execRxAct s = .next t ∧ Transmits s t := by
  unfold execRxAct
  split
  · refine ⟨_, rfl, ?_⟩
    rw [drain_eq_foldl]
    obtain ⟨-, -, -, -, -, -, -, henv⟩ := foldl_rxFrame_frame (drained s.env.rxAnswers)
      { s with env := { s.env with rxAnswers := undrained s.env.rxAnswers } }
    exact .silent (by rw [henv]) (by rw [henv])
  · exact ⟨_, rfl, .silent rfl rfl⟩

theorem rxFrame_transmits (f : RxFrame) : Transmits s (s.rxFrame f) := .silent (by simp) (by simp)

end Meanings

/-- Every operation and event, in every state, pushes nothing or one frame of a kind that its role sends. -/
theorem exec_transmits (i : Instr) (s : State) : ∃ t, exec i s = .next t ∧ Transmits s t := by
  cases i with
  | nop | reservedA | reservedB | reservedC | reservedD | reservedE | reservedF | consumeTicks | rxErr | reset =>
    exact ⟨_, rfl, .silent rfl rfl⟩
  | init cfg => exact execInit_transmits s cfg
  | getDiag => exact execGetDiag_transmits s
  | sendCmd idx => exact execSendCmd_transmits s idx
  | sendTel idx => exact execSendTel_transmits s idx
  | sendKeepalive id => exact execSendKeepalive_transmits s id
  | tblRead arr idx fld => exact execTblRead_transmits s arr idx fld
  | tblWrite arr idx fld v => exact execTblWrite_transmits s arr idx fld v
  | rdCsr imm => exact execRdCsr_transmits s imm
  | tick => exact execTick_transmits s
  | rxAct => exact execRxAct_transmits s
  | rxFrame f | rxdTel f | rxdCmd f | rxdUnrec f => exact ⟨_, rfl, rxFrame_transmits s f⟩
  | txdCmd id data => exact execTxdCmd_transmits s id data
  | txdKa id => exact execTxdKa_transmits s id
  | txdTel id data => exact execTxdTel_transmits s id data

/-! ### The format of what leaves -/

/-- The format of an outbound frame at `s` (R92, R206 to R209, R215). -/
def State.FixedFormat (s : State) (g : TxFrame) : Prop :=
  g.fdf = true ∧ g.brs = true ∧ g.rtr = false ∧ g.ide = false ∧
    ((s.role = .hub ∧ g.dlc = 12 ∧ g.data.length = 24 ∧ ∃ k : Fin 15,
        g.id = BitVec.ofNat 11 (s.baseC.toNat + k) ∧
        word32 s.params.endian (g.data.take 4) = BitVec.ofNat 32 k) ∨
      (s.role = .sat ∧ g.dlc = 14 ∧ g.data.length = 48 ∧ g.data.drop 40 = zeros 8 ∧ ∃ k : Fin 15,
        g.id = BitVec.ofNat 11 (s.baseT.toNat + k) ∧
        (s.params.telForceIndex = true → word32 s.params.endian (g.data.take 4) = BitVec.ofNat 32 k)) ∨
      (g.dlc = 13 ∧ g.data = zeros 32))

/-- `BuildFrame` gives every kind its format (R205 to R209). -/
theorem buildFrame_fixedFormat {s : State} {k : FrameKind} (hk : k.SentBy s.role) :
    s.FixedFormat (buildFrame s.params s.baseT s.baseC k) := by
  refine ⟨?_, ?_, ?_, ?_, ?_⟩
  iterate 4 cases k <;> rfl
  cases k with
  | cmd i r =>
    exact .inl ⟨hk, rfl, encCmd_length _ _, i, rfl, (word32_take_encCmd _ _).trans (CmdRecord.index_withIndex _ _)⟩
  | tel i r =>
    exact .inr (.inl ⟨hk, rfl, telPayload_length _ _, drop_telPayload _ _, i, rfl, fun hf => by
      simp [buildFrame, buildTel, txFrame, word32_take_telPayload, hf]⟩)
  | ka id => exact .inr (.inr ⟨rfl, rfl⟩)

/-- Settles O48: the one frame pushed, where it leaves, is one that `BuildFrame` gives. -/
theorem outboundFramesHaveTheFixedFormat : Obligations.OutboundFramesHaveTheFixedFormat := by
  intro i s
  obtain ⟨t, h, e⟩ := exec_transmits i s
  refine ⟨t, h, ?_⟩
  cases e with
  | silent hsent hpushes => exact ⟨hpushes.le.trans (Nat.le_succ _), .inl hsent⟩
  | pushed k hm hk hsent hpushes =>
    refine ⟨hpushes.le, ?_⟩
    split at hsent
    · exact .inr ⟨_, hsent, hpushes, buildFrame_fixedFormat hk⟩
    · exact .inl hsent

end Sys2Proof.Machine
end

section
/-! The pseudo-operation `sendCommand` (spec/30_encoding.md R114): six words stored, then the frame offered. -/

namespace Sys2Proof.Machine

/-- Responses one after another (R16). -/
def State.respondAll (s : State) (rs : List Response) : State :=
  { s with env := { s.env with responses := s.env.responses ++ rs } }

section
variable (s : State) (rs : List Response)

@[simp] theorem State.respondAll_mode : (s.respondAll rs).mode = s.mode := rfl
@[simp] theorem State.respondAll_role : (s.respondAll rs).role = s.role := rfl
@[simp] theorem State.respondAll_baseC : (s.respondAll rs).baseC = s.baseC := rfl
@[simp] theorem State.respondAll_tel : (s.respondAll rs).tel = s.tel := rfl
@[simp] theorem State.respondAll_cmd : (s.respondAll rs).cmd = s.cmd := rfl
@[simp] theorem State.respondAll_params : (s.respondAll rs).params = s.params := rfl
@[simp] theorem State.respondAll_sent : (s.respondAll rs).env.sent = s.env.sent := rfl
@[simp] theorem State.respondAll_txAnswer : (s.respondAll rs).txAnswer = s.txAnswer := rfl

theorem State.respondAll_nil : s.respondAll [] = s := by simp [State.respondAll]

theorem State.respond_respondAll (r : Response) : (s.respond r).respondAll rs = s.respondAll (r :: rs) := by
  simp [State.respondAll, State.respond]

end

/-- A record's write and a response do not see each other. -/
theorem State.writeRecord_respond (s : State) (i : Fin 15) (x : Record) (r : Response) :
    (s.respond r).writeRecord i x = (s.writeRecord i x).respond r := by
  cases x <;> rfl

/-- What the controller answers next does not depend on the table (R46). -/
@[simp] theorem State.txAnswer_writeRecord (s : State) (i : Fin 15) (x : Record) :
    (s.writeRecord i x).txAnswer = s.txAnswer := by
  cases x <;> rfl

/-! ### An index below 15 -/

/-- Words `ks` of `r` put over those of `w`, one after another. -/
def copyWords (r w : Vector Word 6) (ks : List (Fin 6)) : Vector Word 6 :=
  ks.foldl (fun w (k : Fin 6) => w.set k r[k]) w

theorem getElem_copyWords (r w : Vector Word 6) (ks : List (Fin 6)) (j : Fin 6) :
    (copyWords r w ks)[j] = if j ∈ ks then r[j] else w[j] := by
  induction ks generalizing w with
  | nil => rfl
  | cons k ks ih =>
    rw [copyWords, List.foldl_cons, ← copyWords, ih]
    by_cases h : j ∈ ks
    · simp [h]
    · simp only [h, if_false, List.mem_cons, or_false, Fin.getElem_fin, Vector.getElem_set, Fin.val_inj]
      grind

/-- A record is its six words. -/
theorem copyWords_all (r w : Vector Word 6) : copyWords r w [0, 1, 2, 3, 4, 5] = r := by
  apply Vector.ext
  intro j hj
  have mem : (⟨j, hj⟩ : Fin 6) ∈ [(0 : Fin 6), 1, 2, 3, 4, 5] := by revert j; decide
  exact (getElem_copyWords r w _ ⟨j, hj⟩).trans (if_pos mem)

/-- Writing back the record a slot holds changes nothing. -/
theorem State.writeRecord_cmd_self (s : State) (i : Fin 15) : s.writeRecord i (.cmd s.cmd[i]) = s := by
  simp [State.writeRecord]

/-- A record written over a word of its slot (R64). -/
theorem State.writeRecord_writeWord_cmd (s : State) (v : Word) (i : Fin 15) (k : Fin 6) (r : CmdRecord) :
    (s.writeWord v (.cmd i k)).writeRecord i (.cmd r) = s.writeRecord i (.cmd r) := by
  simp [State.writeRecord, State.writeWord]

/-- At a running hub, `TBL_WRITE`s of a record's words to a slot of the command array are all carried out (R241). -/
theorem execAll_tblWrite_cmd {s : State} {idx : BitVec 4} {i : Fin 15} (hm : s.mode = .running) (hr : s.role = .hub)
    (hi : slotOf idx = some i) (r : CmdRecord) (ks : List (Fin 6)) :
    execAll (ks.map fun (k : Fin 6) => .tblWrite .cmd idx (BitVec.ofNat 4 k) r.w[k]) s =
      .next ((s.writeRecord i (.cmd ⟨copyWords r.w s.cmd[i].w ks⟩)).respondAll
        (List.replicate ks.length ⟨true, .none, 0, none⟩)) := by
  induction ks generalizing s with
  | nil =>
    rw [copyWords, List.foldl_nil, State.writeRecord_cmd_self, List.length_nil, List.replicate_zero,
      State.respondAll_nil]
    rfl
  | cons k ks ih =>
    have eq : k.val % 16 = k := by omega
    have word : wordRef .cmd idx (BitVec.ofNat 4 k) = some (.cmd i k) := by simp [wordRef, hi, cmdField, eq]
    have ha : Arr.cmd = localArr s.role := by rw [hr]; rfl
    have written : (s.writeWord r.w[k] (.cmd i k)).cmd[i].w = s.cmd[i].w.set k r.w[k] := by simp
    rw [List.map_cons, execAll_cons_next (exec_tblWrite_of_some _ hm ha word), ih (by simpa using hm) (by simpa using hr),
      State.accept_cmd, written, State.accept, State.writeRecord_respond, State.writeRecord_writeWord_cmd,
      State.respond_respondAll]
    rfl

/-- `SEND_CMD` at a running hub, with a valid index, offers the slot's record (R210, R212). -/
theorem exec_sendCmd_of_some {s : State} {idx : BitVec 4} {i : Fin 15} {r : CmdRecord} (hm : s.mode = .running)
    (hr : s.role = .hub) (hi : slotOf idx = some i) (hrec : s.cmd[i] = r) :
    exec (.sendCmd idx) s = .next (s.send (.cmd i r)) := by
  subst hrec
  simp [exec, execSendCmd, hm, hr, hi]

/-- The calls of `sendCommand` with an index that fits the field: the record's words in order, then the frame (R114). -/
theorem sendCommandCall_of_fits {n : Nat} (h : n < 16) (r : CmdRecord) : sendCommandCall n r =
    some (([0, 1, 2, 3, 4, 5].map fun (k : Fin 6) => .tblWrite .cmd (BitVec.ofNat 4 n) (BitVec.ofNat 4 k) r.w[k]) ++
      [.sendCmd (BitVec.ofNat 4 n)]) := by
  rw [sendCommandCall, if_pos (by omega), BitVec.ofInt_natCast]
  rfl

/-- The call at a running hub, with a valid index (R114). -/
theorem execAll_sendCommand {s : State} {idx : BitVec 4} {i : Fin 15} (hm : s.mode = .running) (hr : s.role = .hub)
    (hi : slotOf idx = some i) (r : CmdRecord) :
    execAll (([0, 1, 2, 3, 4, 5].map fun (k : Fin 6) => .tblWrite .cmd idx (BitVec.ofNat 4 k) r.w[k]) ++
      [.sendCmd idx]) s = .next (((s.writeRecord i (.cmd r)).respondAll
        (List.replicate 6 ⟨true, .none, 0, none⟩)).send (.cmd i r)) := by
  rw [execAll_append_next (execAll_tblWrite_cmd hm hr hi r _), copyWords_all]
  exact execAll_cons_next (exec_sendCmd_of_some (by simpa using hm) (by simpa using hr) hi (by simp))

/-! ### Index 15 -/

/-- Operations that are all refused for one cause, however many were refused before them, change nothing (R263). -/
theorem execAll_refused {ops : List Instr} {s : State} {c : Cause}
    (h : ∀ op ∈ ops, ∀ rs, exec op (s.respondAll rs) = .next ((s.respondAll rs).refuse c)) :
    execAll ops s = .next (s.respondAll (List.replicate ops.length ⟨false, c, 0, none⟩)) := by
  induction ops generalizing s with
  | nil => rw [execAll_nil, List.length_nil, List.replicate_zero, State.respondAll_nil]
  | cons op ops ih =>
    obtain ⟨hop, hops⟩ := List.forall_mem_cons.mp h
    have first : exec op s = .next (s.refuse c) := by simpa [State.respondAll_nil] using hop []
    have later : ∀ op ∈ ops, ∀ rs,
        exec op ((s.refuse c).respondAll rs) = .next (((s.refuse c).respondAll rs).refuse c) := by
      intro op' hmem rs
      rw [State.refuse, State.respond_respondAll]
      exact hops op' hmem _
    rw [execAll_cons_next first, ih later, State.refuse, State.respond_respondAll]
    rfl

/-- `TBL_WRITE` to the local array, with an operand out of range (R241). -/
theorem exec_tblWrite_of_none {s : State} {arr : Arr} {idx fld : BitVec 4} (v : Word) (hm : s.mode = .running)
    (ha : arr = localArr s.role) (hp : wordRef arr idx fld = none) :
    exec (.tblWrite arr idx fld v) s = .next (s.refuse .badIndex) := by
  subst ha
  simp [exec, execTblWrite, hm, hp]

/-- `SEND_CMD` at a running hub, with index 15 (R210). -/
theorem exec_sendCmd_of_none {s : State} {idx : BitVec 4} (hm : s.mode = .running) (hr : s.role = .hub)
    (hi : slotOf idx = none) : exec (.sendCmd idx) s = .next (s.refuse .badIndex) := by
  simp [exec, execSendCmd, hm, hr, hi]

/-- Settles O52, by the three ranges of the index. -/
theorem sendCommandStoresThenSends : Obligations.SendCommandStoresThenSends := by
  intro s r hm hr
  refine ⟨fun n h => ?_, ?_, fun n h => ?_⟩
  · have slot : slotOf (BitVec.ofNat 4 n) = some ⟨n, h⟩ := slotOf_eq_some.mpr (by simp; omega)
    refine ⟨_, _, sendCommandCall_of_fits (by omega) r, execAll_sendCommand hm hr slot r, ?_, ?_, ?_⟩
    · simp
    · simp
    · simp [send_eq, buildFrame, buildCmd, txFrame, cmdPayload]
  · refine ⟨_, _, sendCommandCall_of_fits (by decide) r, execAll_refused (c := .badIndex) ?_, rfl⟩
    intro op hop rs
    have hub : Arr.cmd = localArr (s.respondAll rs).role := by rw [State.respondAll_role, hr]; rfl
    simp only [List.mem_append, List.mem_map, List.mem_singleton] at hop
    obtain ⟨k, -, rfl⟩ | rfl := hop
    · exact exec_tblWrite_of_none _ hm hub (wordRef_eq_none.mpr (.inl (by decide)))
    · exact exec_sendCmd_of_none hm hr (slotOf_eq_none.mpr (by decide))
  · exact if_neg (by omega)

end Sys2Proof.Machine
end

section
/-! The Frame Codec (spec/40_frame_codec.md R136 to R138): decoding after encoding, encoding after decoding, and the length
codes under which a payload decodes. -/

namespace Sys2Proof.Machine
open Sys2Proof.Config

/-! ### Encode, then decode -/

/-- The words read from the image of `n` words are those words (R131 to R134). -/
theorem ofFn_wordAt_flatMap_bytes32 (e : Endian) {n : Nat} (v : Vector Word n) :
    (Vector.ofFn fun k : Fin n => wordAt e (v.toList.flatMap (bytes32 e)) k) = v := by
  ext1 k hk
  have word : wordAt e (v.toList.flatMap (bytes32 e)) k = v.toList[k]'(by simpa using hk) := by
    rw [wordAt, take_drop_flatMap_blocks (bytes32_length e), word32_bytes32]
  simpa using word

theorem decTel_encTel (e : Endian) (r : TelRecord) : decTel e (encTel e r) = r :=
  congrArg TelRecord.mk (ofFn_wordAt_flatMap_bytes32 e r.w)

theorem decCmd_encCmd (e : Endian) (r : CmdRecord) : decCmd e (encCmd e r) = r :=
  congrArg CmdRecord.mk (ofFn_wordAt_flatMap_bytes32 e r.w)

/-- The padding of a telemetry payload is not part of the record (R135, R136). -/
theorem decodeFrame_telPayload (e : Endian) (r : TelRecord) :
    decodeFrame e .telCat (telPayload e r) = some (.tel r) := by
  have image : (telPayload e r).take 40 = encTel e r := List.take_left' (encTel_length e r)
  rw [decodeFrame_telCat, image, decTel_encTel, telPayload_length, if_pos (by decide)]

/-- A command payload is the record's image, unpadded (R135, R136). -/
theorem decodeFrame_cmdPayload (e : Endian) (c : CmdRecord) :
    decodeFrame e .cmdCat (cmdPayload e c) = some (.cmd c) := by
  have image : (encCmd e c).take 24 = encCmd e c := List.take_of_length_le (encCmd_length e c).le
  rw [cmdPayload, decodeFrame_cmdCat, image, decCmd_encCmd, encCmd_length, if_pos (Nat.le_refl 24)]

/-- Settles O23: word by word for the record images, through the padding for the payloads. -/
theorem codecRoundTrip : Obligations.CodecRoundTrip := fun e r c =>
  ⟨decTel_encTel e r, decCmd_encCmd e c, decodeFrame_telPayload e r, decodeFrame_cmdPayload e c⟩

/-! ### Decode, then encode -/

/-- Settles O24, from the same fact for an image of any number of words. -/
theorem codecConverse : Obligations.CodecConverse := fun e _ => ⟨encTel_decTel e, encCmd_decCmd e⟩

/-! ### The length codes -/

/-- A payload decodes exactly when it is no shorter than the record (R136). -/
theorem decodeFrame_isSome_iff (e : Endian) (cat : Category) (b : List Byte) :
    (decodeFrame e cat b).isSome = true ↔ recSize cat ≤ b.length := by
  cases cat with
  | telCat => rw [decodeFrame_telCat]; simp [recSize]
  | cmdCat => rw [decodeFrame_cmdCat]; simp [recSize]

/-- A frame that is not an FD frame has at most 8 bytes (R93). -/
theorem lenOf_false_le (dlc : BitVec 4) : lenOf false dlc ≤ 8 := by
  unfold lenOf
  split
  · assumption
  · exact Nat.le_refl 8

/-- The FD length codes that leave room for a record of each category: one row of the table of R93 each. -/
theorem recSize_le_lenOf_true_iff (dlc : BitVec 4) :
    (recSize .telCat ≤ lenOf true dlc ↔ dlc ∈ [(14 : BitVec 4), 15]) ∧
    (recSize .cmdCat ≤ lenOf true dlc ↔ dlc ∈ [(12 : BitVec 4), 13, 14, 15]) := by
  revert dlc
  decide

/-- No record fits a frame that is not an FD frame. -/
theorem lenOf_false_lt_recSize (cat : Category) (dlc : BitVec 4) : lenOf false dlc < recSize cat := by
  have short := lenOf_false_le dlc
  cases cat <;> (simp only [recSize]; omega)

/-- Settles O25: only the length decides, an FD frame's by the table, and any other frame is too short. -/
theorem lengthCodesThatDecode : Obligations.LengthCodesThatDecode := by
  intro e f hf
  have len : f.data.length = lenOf f.fdf f.dlc := of_decide_eq_true hf
  simp only [decodeFrame_isSome_iff, len]
  cases f.fdf with
  | false => simp [lenOf_false_lt_recSize]
  | true => simpa using recSize_le_lenOf_true_iff f.dlc

end Sys2Proof.Machine
end

section
/-! The Identifier Router (spec/41_identifier_router.md R151, R153 to R155): what `classify` answers, class by class,
what `resolve` does with an embedded index, and `route` as the two composed. -/

namespace Sys2Proof.Machine

/-! ### Classification -/

/-- The telemetry range is asked first, so the telemetry class needs no premise on the bases (R151). -/
theorem classify_eq_tel_iff {bt bc id : Ident} {k : Fin 15} :
    classify bt bc id = .tel k ↔ id.toNat = bt.toNat + k := by
  obtain ⟨j, h, hid⟩ | ⟨j, h, -, hout⟩ | ⟨h, hout, -⟩ := classify_cases bt bc id
  · rw [h, SlotKind.tel.injEq, Fin.ext_iff]
    omega
  · simp only [h, reduceCtorEq, false_iff]
    omega
  · simp only [h, reduceCtorEq, false_iff]
    omega

/-- The command class is the command range's offset where the telemetry range has not claimed the identifier. -/
theorem classify_eq_cmd_iff {bt bc id : Ident} {k : Fin 15} : classify bt bc id = .cmd k ↔
    id.toNat = bc.toNat + k ∧ ¬ (bt.toNat ≤ id.toNat ∧ id.toNat ≤ bt.toNat + 14) := by
  obtain ⟨j, h, hid⟩ | ⟨j, h, hid, hout⟩ | ⟨h, -, hout⟩ := classify_cases bt bc id
  · simp only [h, reduceCtorEq, false_iff]
    omega
  · rw [h, SlotKind.cmd.injEq, Fin.ext_iff, and_iff_left hout]
    omega
  · simp only [h, reduceCtorEq, false_iff]
    omega

theorem classify_eq_unrec_iff {bt bc id : Ident} : classify bt bc id = .unrec ↔
    ¬ (bt.toNat ≤ id.toNat ∧ id.toNat ≤ bt.toNat + 14) ∧ ¬ (bc.toNat ≤ id.toNat ∧ id.toNat ≤ bc.toNat + 14) := by
  obtain ⟨j, h, hid⟩ | ⟨j, h, hid, -⟩ | ⟨h, hout⟩ := classify_cases bt bc id
  · simp only [h, reduceCtorEq, false_iff]
    omega
  · simp only [h, reduceCtorEq, false_iff]
    omega
  · exact iff_of_true h hout

/-- In a configuration that `INIT` admits, no identifier of the command range lies in the telemetry range (R232). -/
theorem not_telRange_of_cmdOffset {bt bc id : Ident} {k : Fin 15} (hv : cfgValid bt bc = true)
    (hid : id.toNat = bc.toNat + k) : ¬ (bt.toNat ≤ id.toNat ∧ id.toNat ≤ bt.toNat + 14) := by
  obtain ⟨-, -, disjoint⟩ := cfgValid_iff.mp hv
  omega

/-- Settles O27: the classes are the ranges, and a valid configuration keeps the command range clear of the telemetry
range, which `classify` asks first. -/
theorem classifyFollowsTheRanges : Obligations.ClassifyFollowsTheRanges := fun _ _ _ hv =>
  ⟨fun _ => classify_eq_tel_iff,
    fun _ => classify_eq_cmd_iff.trans (and_iff_left_of_imp (not_telRange_of_cmdOffset hv)),
    classify_eq_unrec_iff⟩

/-! ### The embedded index -/

theorem resolve_of_lt {e : Word} (k : Fin 15) (h : e.toNat < 15) : resolve k e = ⟨e.toNat, h⟩ := dif_pos h

/-- The rule `FALLBACK_TO_IDENTIFIER` (R154). -/
theorem resolve_of_le {e : Word} (k : Fin 15) (h : 15 ≤ e.toNat) : resolve k e = k := dif_neg (Nat.not_lt.mpr h)

/-- Settles O28, by the two arms of `resolve`. -/
theorem embeddedIndexWinsWheneverValid : Obligations.EmbeddedIndexWinsWheneverValid := fun k _ =>
  ⟨fun h => congrArg Fin.val (resolve_of_lt k h), resolve_of_le k⟩

/-! ### Routing -/

section Routing
variable {bt bc id : Ident} {k : Fin 15}

theorem route_none (bt bc id : Ident) : route bt bc id none = classify bt bc id := by
  unfold route
  cases classify bt bc id <;> rfl

theorem route_some_of_tel (h : classify bt bc id = .tel k) (e : Word) :
    route bt bc id (some e) = .tel (resolve k e) := by
  simp only [route, h]

theorem route_some_of_cmd (h : classify bt bc id = .cmd k) (e : Word) :
    route bt bc id (some e) = .cmd (resolve k e) := by
  simp only [route, h]

theorem route_some_of_unrec (h : classify bt bc id = .unrec) (e : Word) : route bt bc id (some e) = .unrec := by
  simp only [route, h]

end Routing

/-- Settles O29: without an index routing is classification, and with one the class keeps its array. -/
theorem routeSelectsTheSlotWithinTheArray : Obligations.RouteSelectsTheSlotWithinTheArray := fun bt bc id e _ =>
  ⟨fun h => ⟨(route_none bt bc id).trans h, route_some_of_tel h e⟩,
    fun h => ⟨(route_none bt bc id).trans h, route_some_of_cmd h e⟩,
    fun h => ⟨(route_none bt bc id).trans h, route_some_of_unrec h e⟩⟩

end Sys2Proof.Machine
end

section
/-! The two paths of a received frame (spec/42_receive_drain.md R165 to R171): which frames are recognized, and the next
state on either path. -/

namespace Sys2Proof.Machine

/-! ### Which frames are recognized -/

section Recognize
variable {s : State} {f : RxFrame} {k : Fin 15}

/-- At a hub the telemetry range and the length of the record decide (R169). -/
theorem recognize_of_telOffset (hr : s.role = .hub) (hid : f.id.toNat = s.baseT.toNat + k) : recognize s f =
    if 40 ≤ f.data.length then
      some (resolve k (decTel s.params.endian (f.data.take 40)).index, .tel (decTel s.params.endian (f.data.take 40)))
    else none := by
  simp only [recognize, classify_eq_tel_iff.mpr hid, hr, inbound, decodeFrame_telCat, if_true]
  split <;> rfl

/-- At a satellite the command range, where the telemetry range leaves it, and the record's length decide (R169). -/
theorem recognize_of_cmdOffset (hr : s.role = .sat) (hid : f.id.toNat = s.baseC.toNat + k)
    (hout : ¬ (s.baseT.toNat ≤ f.id.toNat ∧ f.id.toNat ≤ s.baseT.toNat + 14)) : recognize s f =
    if 24 ≤ f.data.length then
      some (resolve k (decCmd s.params.endian (f.data.take 24)).index, .cmd (decCmd s.params.endian (f.data.take 24)))
    else none := by
  simp only [recognize, classify_eq_cmd_iff.mpr ⟨hid, hout⟩, hr, inbound, decodeFrame_cmdCat, if_true]
  split <;> rfl

theorem recognize_of_unrec (h : classify s.baseT s.baseC f.id = .unrec) : recognize s f = none := by
  simp only [recognize, h]

/-- A hub recognizes no frame of the command class (R152, R169). -/
theorem recognize_of_hub_of_cmd (hr : s.role = .hub) (h : classify s.baseT s.baseC f.id = .cmd k) :
    recognize s f = none := by
  simp [recognize, h, hr, inbound]

/-- A satellite recognizes no frame of the telemetry class (R152, R169). -/
theorem recognize_of_sat_of_tel (hr : s.role = .sat) (h : classify s.baseT s.baseC f.id = .tel k) :
    recognize s f = none := by
  simp [recognize, h, hr, inbound]

theorem recognize_eq_none_of_hub (hr : s.role = .hub)
    (h : ¬ (s.baseT.toNat ≤ f.id.toNat ∧ f.id.toNat ≤ s.baseT.toNat + 14 ∧ 40 ≤ f.data.length)) :
    recognize s f = none := by
  obtain ⟨j, -, hid⟩ | ⟨j, hc, -⟩ | ⟨hc, -⟩ := classify_cases s.baseT s.baseC f.id
  · rw [recognize_of_telOffset hr hid, if_neg (by omega)]
  · exact recognize_of_hub_of_cmd hr hc
  · exact recognize_of_unrec hc

theorem recognize_eq_none_of_sat (hr : s.role = .sat)
    (h : ¬ (s.baseC.toNat ≤ f.id.toNat ∧ f.id.toNat ≤ s.baseC.toNat + 14 ∧ 24 ≤ f.data.length)) :
    recognize s f = none := by
  obtain ⟨j, hc, -⟩ | ⟨j, -, hid, hout⟩ | ⟨hc, -⟩ := classify_cases s.baseT s.baseC f.id
  · exact recognize_of_sat_of_tel hr hc
  · rw [recognize_of_cmdOffset hr hid hout, if_neg (by omega)]
  · exact recognize_of_unrec hc

end Recognize

/-! ### The next state on either path -/

section Paths
variable {s : State} {f : RxFrame}

/-- The four events that receive a frame have one meaning (R110, R167; log entry 5). -/
theorem exec_of_mem_receives {i : Instr} (h : i ∈ receives f) (s : State) : exec i s = .next (s.rxFrame f) := by
  simp only [receives, List.mem_cons, List.not_mem_nil, or_false] at h
  obtain rfl | rfl | rfl | rfl := h <;> rfl

/-- Outside `RUNNING` the gate of R165 is shut. -/
theorem rxFrame_of_not_running (hm : s.mode ≠ .running) (f : RxFrame) : s.rxFrame f = s := if_neg hm

/-- The recognized path: the record is stored, the total and the recognized frames are counted (R168, R170). -/
theorem rxFrame_of_recognize {j : Fin 15} {r : Record} (hm : s.mode = .running) (h : recognize s f = some (j, r)) :
    s.rxFrame f = (s.countTotal.writeRecord j r).countPdo := by
  simp only [rxFrame_of_running hm, State.receive, h]

/-- The unrecognized path: the frame is kept, the total and the other frames are counted (R168, R171). -/
theorem rxFrame_of_recognize_none (hm : s.mode = .running) (h : recognize s f = none) :
    s.rxFrame f = { s.countTotal with diag := snapshot f }.countOther := by
  simp only [rxFrame_of_running hm, State.receive, h]

end Paths

/-- Settles O31: the identifier's offset and the length put the frame on the recognized path. -/
theorem hubStoresReceivedTelemetry : Obligations.HubStoresReceivedTelemetry := by
  intro s f k i hi hm hr hid hlen
  have recognized := recognize_of_telOffset hr hid
  rw [if_pos hlen] at recognized
  rw [exec_of_mem_receives hi, rxFrame_of_recognize hm recognized]
  rfl

/-- Settles O32: as O31, a valid configuration keeping the telemetry range clear of the command range (R232). -/
theorem satelliteStoresReceivedCommands : Obligations.SatelliteStoresReceivedCommands := by
  intro s f k i hi hm hr hv hid hlen
  have recognized := recognize_of_cmdOffset hr hid (not_telRange_of_cmdOffset hv hid)
  rw [if_pos hlen] at recognized
  rw [exec_of_mem_receives hi, rxFrame_of_recognize hm recognized]
  rfl

/-- The snapshot's 64 bytes are the payload and then zeros (R171). -/
theorem snapshot_data_toList {f : RxFrame} (h : f.data.length ≤ 64) :
    (snapshot f).data.toList = f.data ++ zeros (64 - f.data.length) := by
  refine List.ext_getElem (by simp; omega) fun n _ _ => ?_
  by_cases hn : n < f.data.length
  · simp [snapshot, hn]
  · simp [snapshot, zeros, hn, Nat.le_of_not_lt hn]

/-- Settles O33: at either role such a frame is on the unrecognized path. -/
theorem otherFramesOverwriteTheSnapshot : Obligations.OtherFramesOverwriteTheSnapshot := by
  intro s f i hi hm hlen hhub hsat
  have unrecognized : recognize s f = none := by
    cases hr : s.role with
    | hub => exact recognize_eq_none_of_hub hr (hhub hr)
    | sat => exact recognize_eq_none_of_sat hr (hsat hr)
  refine ⟨snapshot f, ?_, rfl, rfl, rfl, rfl, rfl, snapshot_data_toList hlen⟩
  rw [exec_of_mem_receives hi, rxFrame_of_recognize_none hm unrecognized]
  rfl

/-- Settles O34, by the gate of an activation and that of a frame. -/
theorem receiveSideIsIgnoredOutsideRunning : Obligations.ReceiveSideIsIgnoredOutsideRunning := fun s f hm =>
  ⟨if_neg hm, fun i hi => by rw [exec_of_mem_receives hi, rxFrame_of_not_running hm]⟩

/-- Settles O36: the meaning of `RX_ERR` is the identity. -/
theorem rxErrChangesNothing : Obligations.RxErrChangesNothing := fun _ => rfl

end Sys2Proof.Machine
end

section
/-! Sequences of received frames (spec/42_receive_drain.md R166, R175 to R177): the loop of an activation, what
recognized frames count and leave as it was, and the snapshot that `GET_DIAG` returns. -/

namespace Sys2Proof.Machine

/-! ### The loop of an activation -/

/-- The state in which `RxPop()` will give the answers `as`. -/
def State.withAnswers (s : State) (as : List RxAnswer) : State := { s with env := { s.env with rxAnswers := as } }

section Answers
variable (s : State) (as : List RxAnswer)

@[simp] theorem State.withAnswers_mode : (s.withAnswers as).mode = s.mode := rfl
@[simp] theorem State.withAnswers_rxAnswers : (s.withAnswers as).env.rxAnswers = as := rfl
@[simp] theorem State.ownedRecord_withAnswers (j : Fin 15) : (s.withAnswers as).ownedRecord j = s.ownedRecord j := rfl
@[simp] theorem recognize_withAnswers (f : RxFrame) : recognize (s.withAnswers as) f = recognize s f := rfl

/-- Receiving a frame neither reads nor changes the answers to come. -/
theorem State.rxFrame_withAnswers (f : RxFrame) : (s.withAnswers as).rxFrame f = (s.rxFrame f).withAnswers as := by
  rw [State.withAnswers, rxFrame_withEnv, ← rxFrame_env s f, ← State.withAnswers]

/-- The loop leaves its own remainder of the answers, whatever answers the state lists. -/
theorem drain_withAnswers (bs : List RxAnswer) : drain bs (s.withAnswers as) = drain bs s := by
  rw [drain_eq_foldl, drain_eq_foldl, State.withAnswers]

end Answers

section Activation
variable {s : State}

theorem State.rxPop_of_nil (h : s.env.rxAnswers = []) : s.rxPop = (.empty, s) := by
  simp only [State.rxPop, h]

theorem State.rxPop_of_cons {a : RxAnswer} {rest : List RxAnswer} (h : s.env.rxAnswers = a :: rest) :
    s.rxPop = (a, s.withAnswers rest) := by
  simp only [State.rxPop, h, State.withAnswers]

/-- In `RUNNING` an activation is the loop over the listed answers (R166). -/
theorem exec_rxAct_of_running (hm : s.mode = .running) : exec .rxAct s = .next (drain s.env.rxAnswers s) := if_pos hm

/-- On a frame the activation goes on as a new one would from the state after that frame (R166). -/
theorem exec_rxAct_rxFrame_withAnswers (hm : s.mode = .running) (f : RxFrame) (rest : List RxAnswer) :
    exec .rxAct ((s.withAnswers rest).rxFrame f) = .next (drain rest (s.rxFrame f)) := by
  rw [State.rxFrame_withAnswers, exec_rxAct_of_running (by simpa using hm), State.withAnswers_rxAnswers,
    drain_withAnswers]

/-- An activation on frames up to an `Empty` is the fold of those frames (R166). -/
theorem exec_rxAct_of_frames {fs : List RxFrame} (hm : s.mode = .running)
    (h : s.env.rxAnswers = fs.map RxAnswer.frame ++ [.empty]) :
    exec .rxAct s = .next (fs.foldl State.rxFrame (s.withAnswers [])) := by
  obtain ⟨t, activation, frames⟩ := activationIsItsFramesOneByOne s fs [.empty] hm h (.inr (.inl rfl))
  rw [activation, ← frames]
  exact execAll_rxFrames fs _

end Activation

/-- Settles O37, by the answers the queue lists: none, or a first one. -/
theorem activationFollowsTheLoop : Obligations.ActivationFollowsTheLoop := by
  intro s hm
  rw [exec_rxAct_of_running hm]
  cases h : s.env.rxAnswers with
  | nil =>
    have used_up : drain [] s = s := by rw [drain, ← h]
    rw [State.rxPop_of_nil h, used_up]
    exact ⟨fun _ => rfl, nofun, nofun⟩
  | cons a rest =>
    rw [State.rxPop_of_cons h]
    cases a with
    | empty => exact ⟨fun _ => rfl, nofun, nofun⟩
    | err => exact ⟨nofun, fun _ => rfl, nofun⟩
    | frame g =>
      refine ⟨nofun, nofun, ?_⟩
      rintro f ⟨⟩
      refine ⟨drain rest (s.rxFrame g), ?_, rfl⟩
      rw [execAll_cons_next rfl, execAll_cons_next (exec_rxAct_rxFrame_withAnswers hm g rest), execAll_nil]

/-! ### Recognized frames -/

/-- Counting `n` times adds `n` modulo `2 ^ w` (R32 to R35). -/
theorem iterate_wrapInc {w v : Nat} (h : v < 2 ^ w) (n : Nat) : (wrapInc w)^[n] v = (v + n) % 2 ^ w := by
  induction n with
  | zero => exact (Nat.mod_eq_of_lt h).symm
  | succ n ih => rw [Function.iterate_succ_apply', ih, wrapInc, Nat.mod_add_mod, Nat.add_assoc]

/-- Recognized frames count as such, one by one, and leave the snapshot alone (R170, R176). -/
theorem foldl_rxFrame_of_recognized {fs : List RxFrame} {s : State} (hm : s.mode = .running)
    (h : ∀ f ∈ fs, (recognize s f).isSome = true) :
    (fs.foldl State.rxFrame s).cntTotal = (wrapInc s.params.cntW)^[fs.length] s.cntTotal ∧
    (fs.foldl State.rxFrame s).cntPdo = (wrapInc s.params.cntW)^[fs.length] s.cntPdo ∧
    (fs.foldl State.rxFrame s).cntOther = s.cntOther ∧ (fs.foldl State.rxFrame s).diag = s.diag := by
  induction fs generalizing s with
  | nil => exact ⟨rfl, rfl, rfl, rfl⟩
  | cons f fs ih =>
    obtain ⟨hf, hfs⟩ := List.forall_mem_cons.mp h
    obtain ⟨⟨j, r⟩, hrec⟩ := Option.isSome_iff_exists.mp hf
    have rest := ih (s := s.rxFrame f) (by simpa using hm) (by simpa only [recognize_rxFrame] using hfs)
    simpa [rxFrame_of_recognize hm hrec] using rest

/-- A slot that none of the recognized frames has is as it was (R177). -/
theorem ownedRecord_foldl_rxFrame_of_not_mem {fs : List RxFrame} {s : State} {slot : RxFrame → Fin 15}
    {record : RxFrame → Record} (h : ∀ f ∈ fs, recognize s f = some (slot f, record f)) {i : Fin 15}
    (hi : i ∉ fs.map slot) : (fs.foldl State.rxFrame s).ownedRecord i = s.ownedRecord i := by
  refine ownedRecord_foldl_rxFrame_of_ne fun g hg j r hrec => ?_
  rw [h g hg] at hrec
  cases hrec
  exact fun e => hi (e ▸ List.mem_map_of_mem hg)

/-- Of recognized frames with different slots, each one's record is what its slot holds after them all (R79, R177). -/
theorem ownedRecord_foldl_rxFrame_of_nodup {fs : List RxFrame} {s : State} {slot : RxFrame → Fin 15}
    {record : RxFrame → Record} (hm : s.mode = .running)
    (h : ∀ f ∈ fs, recognize s f = some (slot f, record f)) (nodup : (fs.map slot).Nodup) {f : RxFrame}
    (hf : f ∈ fs) :
    (fs.foldl State.rxFrame s).ownedRecord (slot f) = record f := by
  induction fs generalizing s with
  | nil => cases hf
  | cons g fs ih =>
    obtain ⟨hg, hfs⟩ := List.forall_mem_cons.mp h
    obtain ⟨fresh, nodup⟩ := List.nodup_cons.mp nodup
    have later : ∀ f ∈ fs, recognize (s.rxFrame g) f = some (slot f, record f) := by
      simpa only [recognize_rxFrame] using hfs
    obtain rfl | hf := List.mem_cons.mp hf
    · rw [List.foldl_cons, ownedRecord_foldl_rxFrame_of_not_mem later fresh, ownedRecord_rxFrame_same hm hg]
    · exact ih (by simpa using hm) later nodup hf

/-- Settles O39: the activation is the fold of its frames, all of them recognized. -/
theorem activationUpdatesEachSlotOnce : Obligations.ActivationUpdatesEachSlotOnce := by
  intro s fs slot record hinv hm hr has hrec nodup
  have recognized : ∀ f ∈ fs, (recognize (s.withAnswers []) f).isSome = true := fun f hf => by
    rw [recognize_withAnswers, hrec f hf, Option.isSome_some]
  obtain ⟨-, role, -⟩ := foldl_rxFrame_frame fs (s.withAnswers [])
  obtain ⟨total, pdo, other, diag⟩ := foldl_rxFrame_of_recognized (by simpa using hm) recognized
  have owned := State.ownedRecord_of_hub (role.trans hr)
  refine ⟨_, exec_rxAct_of_frames hm has, fun f hf => ?_, fun i hi => ?_, ?_, ?_, other, diag⟩
  · rw [← Record.tel.injEq, ← owned]
    exact ownedRecord_foldl_rxFrame_of_nodup (s := s.withAnswers []) (record := fun f => .tel (record f)) hm hrec
      nodup hf
  · rw [← Record.tel.injEq, ← owned, ← State.ownedRecord_of_hub hr, ← State.ownedRecord_withAnswers s []]
    exact ownedRecord_foldl_rxFrame_of_not_mem (s := s.withAnswers []) (record := fun f => .tel (record f)) hrec hi
  · rw [total]
    exact iterate_wrapInc hinv.total_lt fs.length
  · rw [pdo]
    exact iterate_wrapInc hinv.pdo_lt fs.length

/-! ### `GET_DIAG` -/

/-- With a snapshot pending it is returned and the flag cleared, as one transition (R175). -/
theorem exec_getDiag_of_pending {s : State} (h : s.diag.pending = true) :
    exec .getDiag s = .next (s.clearPending.respond ⟨true, .none, 0, some s.diag.frame⟩) := if_pos h

theorem exec_getDiag_of_not_pending {s : State} (h : s.diag.pending = false) :
    exec .getDiag s = .next (s.respond ⟨true, .none, 0, none⟩) := if_neg (by simp [h])

/-- Settles O42, by the flag `pending`. -/
theorem getDiagReturnsAndClears : Obligations.GetDiagReturnsAndClears := fun _ =>
  ⟨exec_getDiag_of_pending, exec_getDiag_of_not_pending⟩

/-- The snapshot of a frame of R91's length gives the frame back: the zeros behind the payload are cut off (R103). -/
theorem snapshot_frame {f : RxFrame} (h : f.wellFormed = true) : (snapshot f).frame = f := by
  have len : f.data.length = lenOf f.fdf f.dlc := by simpa [RxFrame.wellFormed] using h
  have payload : (snapshot f).data.toList.take (lenOf f.fdf f.dlc) = f.data := by
    rw [snapshot_data_toList (len ▸ lenOf_le _ _), ← len, List.take_left]
  exact congrArg (RxFrame.mk f.id f.dlc f.fdf f.brs) payload

/-- The snapshot is of the latest unrecognized frame, whatever was received before it (R171, R176). -/
theorem diag_foldl_rxFrame {s : State} {fs gs : List RxFrame} {f : RxFrame} (hm : s.mode = .running)
    (hf : recognize s f = none) (hgs : ∀ g ∈ gs, (recognize s g).isSome = true) :
    ((fs ++ f :: gs).foldl State.rxFrame s).diag = snapshot f := by
  rw [List.foldl_append]
  obtain ⟨mode, -⟩ := foldl_rxFrame_frame fs s
  have same_path : ∀ g, recognize (fs.foldl State.rxFrame s) g = recognize s g := recognize_foldl_rxFrame fs s
  generalize fs.foldl State.rxFrame s = before at mode same_path ⊢
  have running : before.mode = .running := mode.trans hm
  have recognized : ∀ g ∈ gs, (recognize (before.rxFrame f) g).isSome = true := by
    simpa only [recognize_rxFrame, same_path] using hgs
  obtain ⟨-, -, -, kept⟩ := foldl_rxFrame_of_recognized ((rxFrame_mode before f).trans running) recognized
  rw [List.foldl_cons, kept, rxFrame_of_recognize_none running ((same_path f).trans hf), State.countOther_diag]

/-- Settles O41: the unrecognized frame set the snapshot, the recognized ones left it, and `GET_DIAG` reads it. -/
theorem snapshotIsTheLastUnrecognizedFrame : Obligations.SnapshotIsTheLastUnrecognizedFrame := by
  intro s fs gs f hm hwf hf hgs
  have diag := diag_foldl_rxFrame (fs := fs) hm hf hgs
  obtain ⟨-, -, -, -, -, -, -, env⟩ := foldl_rxFrame_frame (fs ++ f :: gs) s
  have pending : ((fs ++ f :: gs).foldl State.rxFrame s).diag.pending = true := by rw [diag, snapshot]
  refine ⟨_, _, execAll_rxFrames _ s, pending, exec_getDiag_of_pending pending, ?_, ?_⟩
  · rw [State.respond_env, State.clearPending_env, env, diag, snapshot_frame hwf]
  · rw [State.respond_diag, State.clearPending_diag]

end Sys2Proof.Machine
end

section
/-! The Tick Distributor over any run (spec/43_tick_distributor.md R192 to R196): what one tick and one consumption do,
what everything else leaves of the tick element, and what a run counts and returns. -/

namespace Sys2Proof.Machine

/-! ### One tick, one consumption -/

section One
variable {s : State}

theorem State.countTick_of_counting (ht : s.tickModel = .counting) :
    s.countTick = { s with tick := wrapInc s.params.tickW s.tick } := by
  simp only [State.countTick, ht]

theorem State.countTick_of_pending (ht : s.tickModel = .pending) : s.countTick = { s with tick := 1 } := by
  simp only [State.countTick, ht]

theorem exec_tick_of_running (hm : s.mode = .running) : exec .tick s = .next s.countTick := if_pos hm

/-- Outside `RUNNING` a tick is dropped (R192). -/
theorem exec_tick_of_not_running (hm : s.mode ≠ .running) : exec .tick s = .next s := if_neg hm

theorem exec_consumeTicks (s : State) :
    exec .consumeTicks s = .next (s.clearTick.accept (BitVec.ofNat 32 s.tick)) := rfl

@[simp] theorem State.lastRdata_accept (s : State) (v : Word) : (s.accept v).lastRdata = v.toNat := by
  simp [State.lastRdata]

/-- A count that fits its width does not wrap. -/
theorem wrapInc_of_lt {w v : Nat} (h : v + 1 < 2 ^ w) : wrapInc w v = v + 1 := Nat.mod_eq_of_lt h

/-- A value of at most 32 bits is returned whole (R10). -/
theorem toNat_ofNat_of_lt_two_pow {w v : Nat} (hw : w ≤ 32) (h : v < 2 ^ w) : (BitVec.ofNat 32 v).toNat = v :=
  Nat.mod_eq_of_lt (h.trans_le (Nat.pow_le_pow_right Nat.two_pos hw))

end One

/-- Settles O18, by the mode and the tick model. -/
theorem tickCountsOrSetsTheFlag : Obligations.TickCountsOrSetsTheFlag := fun _ =>
  ⟨fun hm ht => (exec_tick_of_running hm).trans (congrArg _ (State.countTick_of_counting ht)),
    fun hm ht => (exec_tick_of_running hm).trans (congrArg _ (State.countTick_of_pending ht)),
    exec_tick_of_not_running⟩

/-- Settles O19: the two halves of `CONSUME_TICKS`, written out. -/
theorem consumeTicksReturnsAndClears : Obligations.ConsumeTicksReturnsAndClears := exec_consumeTicks

/-! ### What everything else leaves -/

/-- No operation or event writes the parameters (R9). -/
theorem Effect.params_eq {s t : State} {i : Instr} (e : Effect s i t) : t.params = s.params := by
  cases e with
  | stays | latched | failed | ticked | consumed | diagRead | wordWritten | reset => simp
  | received fs env _ =>
    obtain ⟨-, -, -, -, -, -, params, -⟩ := foldl_rxFrame_frame fs { s with env := env }
    exact params

/-- The tick element moves by a tick, a consumption and a reset alone (R192, R194, R300). -/
theorem Effect.tick_eq {s t : State} {i : Instr} (e : Effect s i t) (ht : i ≠ .tick) (hc : i ≠ .consumeTicks)
    (hr : i ≠ .reset) : t.tick = s.tick := by
  cases e with
  | stays | latched | failed | diagRead | wordWritten => simp
  | ticked => exact absurd rfl ht
  | consumed => exact absurd rfl hc
  | reset => exact absurd rfl hr
  | received fs env _ =>
    obtain ⟨-, -, -, -, -, tick, -, -⟩ := foldl_rxFrame_frame fs { s with env := env }
    exact tick

/-- In `RUNNING`, whatever is no reset leaves the mode, the tick model and the width of the tick as they were. -/
theorem Effect.tick_setup {s t : State} {i : Instr} (e : Effect s i t) (hm : s.mode = .running) (hr : i ≠ .reset) :
    t.mode = .running ∧ t.tickModel = s.tickModel ∧ t.params = s.params := by
  obtain ⟨mode, -, model, -, -⟩ := e.mode_config_eq hr (.inl (by simp [hm]))
  exact ⟨mode.trans hm, model, e.params_eq⟩

/-! ### The `COUNTING` model -/

theorem consumedTicks_cons_next {i : Instr} {rest : List Instr} {s t : State} (h : exec i s = .next t) :
    consumedTicks (i :: rest) s = (if i = .consumeTicks then t.lastRdata else 0) + consumedTicks rest t := by
  simp only [consumedTicks, h]

theorem gapsBelow_tick {m c : Nat} {rest : List Instr} :
    gapsBelow m c (.tick :: rest) ↔ c + 1 < m ∧ gapsBelow m (c + 1) rest := by
  simp [gapsBelow]

theorem gapsBelow_consumeTicks {m c : Nat} {rest : List Instr} :
    gapsBelow m c (.consumeTicks :: rest) ↔ c < m ∧ gapsBelow m 0 rest := by
  simp [gapsBelow]

theorem gapsBelow_of_ne {m c : Nat} {i : Instr} {rest : List Instr} (ht : i ≠ .tick) (hc : i ≠ .consumeTicks) :
    gapsBelow m c (i :: rest) ↔ gapsBelow m c rest := by
  simp [gapsBelow, ht, hc]

/-- One operation or event of a run of R195: what it returns and what it leaves is what stood before and its own tick,
and the gaps of the rest are counted from what it leaves. -/
theorem exec_ticks_conserved {s t : State} {i : Instr} {rest : List Instr} (h : exec i s = .next t)
    (hm : s.mode = .running) (hk : s.tickModel = .counting) (hw : s.params.tickW ≤ 32) (hr : i ≠ .reset)
    (hgap : gapsBelow (2 ^ s.params.tickW) s.tick (i :: rest)) :
    (if i = .consumeTicks then t.lastRdata else 0) + t.tick = s.tick + (if i = .tick then 1 else 0) ∧
      gapsBelow (2 ^ s.params.tickW) t.tick rest := by
  by_cases ht : i = .tick
  · subst ht
    obtain ⟨fits, hgap⟩ := gapsBelow_tick.mp hgap
    obtain rfl : s.countTick = t := by simpa [exec_tick_of_running hm] using h
    simpa [State.countTick_of_counting hk, wrapInc_of_lt fits] using hgap
  by_cases hc : i = .consumeTicks
  · subst hc
    obtain ⟨fits, hgap⟩ := gapsBelow_consumeTicks.mp hgap
    cases h
    simpa only [State.lastRdata_accept, toNat_ofNat_of_lt_two_pow hw fits] using ⟨rfl, hgap⟩
  · rw [gapsBelow_of_ne ht hc] at hgap
    rw [(effect_of_exec h).tick_eq ht hc hr]
    simpa [ht, hc] using hgap

/-- Settles O20, by induction on the run. -/
theorem ticksAreConserved : Obligations.TicksAreConserved := by
  intro es
  induction es with
  | nil => exact fun s _ _ _ _ _ => ⟨s, rfl, Nat.zero_add _⟩
  | cons i rest ih =>
    intro s hm hk hw hr hgap
    obtain ⟨hri, hrest⟩ := List.ne_and_not_mem_of_not_mem_cons hr
    obtain ⟨t, h, e⟩ := exec_effect i s
    obtain ⟨mode, model, params⟩ := e.tick_setup hm (Ne.symm hri)
    obtain ⟨one, hgap⟩ := exec_ticks_conserved h hm hk hw (Ne.symm hri) hgap
    rw [← params] at hw hgap
    obtain ⟨u, hu, later⟩ := ih t mode (model.trans hk) hw hrest hgap
    refine ⟨u, (execAll_cons_next h).trans hu, ?_⟩
    rw [consumedTicks_cons_next h, List.count_cons]
    simp only [beq_iff_eq]
    omega

/-! ### The `PENDING` model -/

/-- Until the flag is consumed it is set exactly by a tick (R192). -/
theorem execAll_pending {es : List Instr} {s : State} (hm : s.mode = .running) (hk : s.tickModel = .pending)
    (hr : Instr.reset ∉ es) (hc : Instr.consumeTicks ∉ es) :
    ∃ t, execAll es s = .next t ∧ t.tick = if Instr.tick ∈ es then 1 else s.tick := by
  induction es generalizing s with
  | nil => exact ⟨s, rfl, rfl⟩
  | cons i rest ih =>
    obtain ⟨hri, hr⟩ := List.ne_and_not_mem_of_not_mem_cons hr
    obtain ⟨hci, hc⟩ := List.ne_and_not_mem_of_not_mem_cons hc
    obtain ⟨t, h, e⟩ := exec_effect i s
    obtain ⟨mode, model, -⟩ := e.tick_setup hm (Ne.symm hri)
    obtain ⟨u, hu, flag⟩ := ih mode (model.trans hk) hr hc
    refine ⟨u, (execAll_cons_next h).trans hu, flag.trans ?_⟩
    by_cases ht : i = .tick
    · subst ht
      obtain rfl : s.countTick = t := by simpa [exec_tick_of_running hm] using h
      simp [State.countTick_of_pending hk]
    · simp [e.tick_eq ht (Ne.symm hci) (Ne.symm hri), Ne.symm ht]

/-- Settles O21: the consumption returns the flag, which only a tick has set. -/
theorem pendingFlagSaysWhetherATickOccurred : Obligations.PendingFlagSaysWhetherATickOccurred := by
  intro es s hm hk h0 hr hc
  obtain ⟨t, h, flag⟩ := execAll_pending hm hk hr hc
  refine ⟨_, (execAll_append_next h).trans (execAll_cons_next (exec_consumeTicks t)), ?_, rfl⟩
  rw [State.lastRdata_accept, flag, h0]
  split <;> rfl

end Sys2Proof.Machine
end

section
/-! A tick and everything else do not see each other (spec/43_tick_distributor.md R197): whatever is no tick, no
consumption and no reset is blind to the tick element, so a tick counts the same before and after it. -/

namespace Sys2Proof.Machine

/-- The state with `n` in its tick element. -/
def State.withTick (s : State) (n : Nat) : State := { s with tick := n }

/-- A meaning that neither reads nor moves the tick element: it goes on, and from every tick in the same way. -/
def TickBlind (f : State → Result) : Prop := ∀ s, ∃ t, f s = .next t ∧ ∀ n, f (s.withTick n) = .next (t.withTick n)

/-! ### The shared operations -/

section Shared
variable (s : State) (n : Nat)

@[simp] theorem State.withTick_mode : (s.withTick n).mode = s.mode := rfl
@[simp] theorem State.readWord_withTick (p : WordRef) : (s.withTick n).readWord p = s.readWord p := by cases p <;> rfl
@[simp] theorem State.csr_withTick (k : Nat) : (s.withTick n).csr k = s.csr k := rfl

theorem State.writeWord_withTick (v : Word) (p : WordRef) :
    (s.withTick n).writeWord v p = (s.writeWord v p).withTick n := by
  cases p <;> rfl

/-- A tick in `RUNNING` moves the tick element alone (R192). -/
theorem State.countTick_eq_withTick : s.countTick = s.withTick s.countTick.tick := by
  cases h : s.tickModel with
  | counting => rw [State.countTick_of_counting h, State.withTick]
  | pending => rw [State.countTick_of_pending h, State.withTick]

theorem State.receive_withTick (f : RxFrame) : (s.withTick n).receive f = (s.receive f).withTick n := by
  have same_path : recognize (s.withTick n) f = recognize s f := recognize_congr f rfl rfl rfl rfl
  obtain ⟨i, r, h, _, h'⟩ | ⟨i, r, h, _, h'⟩ | ⟨h, h'⟩ := receive_cases s f <;>
    · rw [h']
      simp only [State.receive, same_path, h]
      rfl

theorem State.rxFrame_withTick (f : RxFrame) : (s.withTick n).rxFrame f = (s.rxFrame f).withTick n := by
  simp only [State.rxFrame, State.withTick_mode, State.receive_withTick]
  split <;> rfl

theorem drain_withTick (as : List RxAnswer) : drain as (s.withTick n) = (drain as s).withTick n := by
  induction as generalizing s with
  | nil => rfl
  | cons a rest ih =>
    cases a with
    | empty | err => rfl
    | frame f => rw [drain, drain, State.rxFrame_withTick, ih]

theorem State.send_withTick (k : FrameKind) : (s.withTick n).send k = (s.send k).withTick n := by
  rw [send_eq, send_eq]
  rfl

theorem State.offer_withTick (b : Bool) (g : TxFrame) : (s.withTick n).offer b g = (s.offer b g).withTick n := by
  by_cases h : s.mode = .running ∧ b = true
  · rw [show s.offer b g = s.txPush g from if_pos h]
    exact if_pos h
  · rw [show s.offer b g = s from if_neg h]
    exact if_neg h

end Shared

/-! ### Each meaning -/

theorem TickBlind.next {g : State → State} (h : ∀ s n, g (s.withTick n) = (g s).withTick n) :
    TickBlind fun s => .next (g s) :=
  fun s => ⟨g s, rfl, fun n => congrArg _ (h s n)⟩

theorem TickBlind.refuse (c : Cause) : TickBlind fun s => .next (s.refuse c) := .next fun _ _ => rfl

theorem TickBlind.send (k : State → FrameKind) (h : ∀ s n, k (s.withTick n) = k s) :
    TickBlind fun s => .next (s.send (k s)) :=
  .next fun s n => by rw [h, s.send_withTick]

/-- A test of anything but the tick element, between two blind meanings. -/
theorem TickBlind.ite {c : State → Prop} [DecidablePred c] {f g : State → Result}
    (hc : ∀ s n, c (s.withTick n) ↔ c s) (hf : TickBlind f) (hg : TickBlind g) :
    TickBlind fun s => if c s then f s else g s := by
  intro s
  simp only [hc]
  split
  · exact hf s
  · exact hg s

theorem execGetDiag_tickBlind : TickBlind execGetDiag :=
  .ite (fun _ _ => Iff.rfl) (.next fun _ _ => rfl) (.next fun _ _ => rfl)

theorem execSendCmd_tickBlind (idx : BitVec 4) : TickBlind (execSendCmd idx) := by
  refine .ite (fun _ _ => Iff.rfl) (.refuse _) (.ite (fun _ _ => Iff.rfl) (.refuse _) ?_)
  cases slotOf idx with
  | none => exact .refuse _
  | some i => exact .send (fun s => .cmd i s.cmd[i]) fun _ _ => rfl

theorem execSendTel_tickBlind (idx : BitVec 4) : TickBlind (execSendTel idx) := by
  refine .ite (fun _ _ => Iff.rfl) (.refuse _) (.ite (fun _ _ => Iff.rfl) (.refuse _) ?_)
  cases slotOf idx with
  | none => exact .refuse _
  | some i => exact .send (fun s => .tel i s.tel[i]) fun _ _ => rfl

theorem execSendKeepalive_tickBlind (id : Ident) : TickBlind (execSendKeepalive id) :=
  .ite (fun _ _ => Iff.rfl) (.refuse _) (.send (fun _ => .ka id) fun _ _ => rfl)

theorem execTblRead_tickBlind (arr : Arr) (idx fld : BitVec 4) : TickBlind (execTblRead arr idx fld) := by
  unfold execTblRead
  cases wordRef arr idx fld with
  | none => exact .refuse _
  | some p => exact .next fun s n => by rw [State.readWord_withTick]; rfl

theorem execTblWrite_tickBlind (arr : Arr) (idx fld : BitVec 4) (v : Word) :
    TickBlind (execTblWrite arr idx fld v) := by
  refine .ite (fun _ _ => Iff.rfl) (.refuse _) (.ite (fun _ _ => Iff.rfl) (.refuse _) ?_)
  cases wordRef arr idx fld with
  | none => exact .refuse _
  | some p => exact .next fun s n => by rw [State.writeWord_withTick]; rfl

theorem execRdCsr_tickBlind (imm : BitVec 11) : TickBlind (execRdCsr imm) := by
  intro s
  simp only [execRdCsr, State.csr_withTick]
  split <;> exact ⟨_, rfl, fun _ => rfl⟩

/-- An activation reads the answers of the receive queue, which are the environment's (R166). -/
theorem execRxAct_tickBlind : TickBlind execRxAct :=
  .ite (fun _ _ => Iff.rfl) (.next fun s n => drain_withTick s n s.env.rxAnswers) (.next fun _ _ => rfl)

/-- Whatever is no tick, no consumption, no `INIT` and no reset is blind to the tick element. -/
theorem exec_tickBlind {i : Instr} (ht : i ≠ .tick) (hc : i ≠ .consumeTicks) (hi : ∀ cfg, i ≠ .init cfg)
    (hr : i ≠ .reset) : TickBlind (exec i) := by
  cases i with
  | tick => exact absurd rfl ht
  | consumeTicks => exact absurd rfl hc
  | reset => exact absurd rfl hr
  | nop | reservedA | reservedB | reservedC | reservedD | reservedE | reservedF | rxErr =>
    exact .next fun _ _ => rfl
  | init cfg => exact absurd rfl (hi cfg)
  | getDiag => exact execGetDiag_tickBlind
  | sendCmd idx => exact execSendCmd_tickBlind idx
  | sendTel idx => exact execSendTel_tickBlind idx
  | sendKeepalive id => exact execSendKeepalive_tickBlind id
  | tblRead arr idx fld => exact execTblRead_tickBlind arr idx fld
  | tblWrite arr idx fld v => exact execTblWrite_tickBlind arr idx fld v
  | rdCsr imm => exact execRdCsr_tickBlind imm
  | rxAct => exact execRxAct_tickBlind
  | rxFrame f | rxdTel f | rxdCmd f | rxdUnrec f =>
    exact .next fun s n => s.rxFrame_withTick n f
  | txdCmd | txdKa | txdTel => exact .next fun s n => s.offer_withTick n _ _

/-! ### Commutation -/

/-- Outside `RUNNING` a tick is dropped before and after whatever is no `INIT` (R21, R192). -/
theorem tick_comm_of_not_running {i : Instr} {s : State} (hm : s.mode ≠ .running) (hi : ∀ cfg, i ≠ .init cfg) :
    ∃ t, execAll [.tick, i] s = .next t ∧ execAll [i, .tick] s = .next t := by
  obtain ⟨t, h, e⟩ := exec_effect i s
  have mode : t.mode ≠ .running := by
    by_cases hr : i = .reset
    · subst hr
      cases h
      nofun
    · rw [(e.mode_config_eq hr (.inr hi)).left]
      exact hm
  refine ⟨t, ?_, ?_⟩
  · rw [execAll_cons_next (exec_tick_of_not_running hm), execAll_cons_next h, execAll_nil]
  · rw [execAll_cons_next h, execAll_cons_next (exec_tick_of_not_running mode), execAll_nil]

/-- A reset after the tick clears it; a tick after the reset is dropped (R192, R300). -/
theorem tick_comm_reset {s : State} (hm : s.mode = .running) :
    execAll [.tick, .reset] s = .next s.resetBlock ∧ execAll [.reset, .tick] s = .next s.resetBlock := by
  have cleared : s.countTick.resetBlock = s.resetBlock := by
    rw [State.resetBlock_eq, State.countTick_params, State.countTick_env, State.resetBlock_eq]
  have dropped : exec .tick s.resetBlock = .next s.resetBlock := exec_tick_of_not_running (by simp)
  constructor
  · rw [execAll_cons_next (exec_tick_of_running hm), execAll_cons_next (t := s.countTick.resetBlock) rfl, cleared,
      execAll_nil]
  · rw [execAll_cons_next (t := s.resetBlock) rfl, execAll_cons_next dropped, execAll_nil]

/-- In `RUNNING` a tick counts the same before and after whatever is blind to it. -/
theorem tick_comm_of_tickBlind {i : Instr} {s : State} (hm : s.mode = .running) (ht : i ≠ .tick)
    (hc : i ≠ .consumeTicks) (hi : ∀ cfg, i ≠ .init cfg) (hr : i ≠ .reset) :
    ∃ t, execAll [.tick, i] s = .next t ∧ execAll [i, .tick] s = .next t := by
  obtain ⟨t, h, blind⟩ := exec_tickBlind ht hc hi hr s
  have e := effect_of_exec h
  obtain ⟨mode, model, params⟩ := e.tick_setup hm hr
  have same_count : t.countTick.tick = s.countTick.tick := by
    rw [State.countTick_tick, State.countTick_tick, model, params, e.tick_eq ht hc hr]
  refine ⟨t.withTick s.countTick.tick, ?_, ?_⟩
  · rw [execAll_cons_next (exec_tick_of_running hm), s.countTick_eq_withTick, execAll_cons_next (blind _), execAll_nil]
    rfl
  · rw [execAll_cons_next h, execAll_cons_next (exec_tick_of_running mode), t.countTick_eq_withTick, same_count,
      execAll_nil]

/-- Settles O22, by the mode: a dropped tick commutes, and one in `RUNNING` is cleared by a reset and unseen by the rest. -/
theorem tickCommutes : Obligations.TickCommutes := by
  intro i s hc hi
  by_cases hm : s.mode = .running
  · by_cases ht : i = .tick
    · subst ht
      obtain ⟨t, h, e⟩ := exec_effect .tick s
      obtain ⟨u, hu, -⟩ := exec_effect .tick t
      have both : execAll [.tick, .tick] s = .next u := by
        rw [execAll_cons_next h, execAll_cons_next hu, execAll_nil]
      exact ⟨u, both, both⟩
    · by_cases hr : i = .reset
      · subst hr
        exact ⟨_, tick_comm_reset hm⟩
      · exact tick_comm_of_tickBlind hm ht hc hi hr
  · exact tick_comm_of_not_running hm hi

end Sys2Proof.Machine
end

section
/-! The Transmit Assembler (spec/44_transmit_assembler.md R206 to R214): what each send operation does in `RUNNING`, how
it is refused, and where a satellite stores the command frame that a hub sends. -/

namespace Sys2Proof.Machine

/-! ### A send operation, carried out or refused -/

section Sends
variable {s : State} {idx : BitVec 4}

/-- The first check of all three (R210, R263). -/
theorem exec_send_of_not_running (hm : s.mode ≠ .running) (imm : Ident) :
    ∀ i ∈ [Instr.sendCmd idx, .sendTel idx, .sendKeepalive imm], exec i s = .next (s.refuse .notRunning) := by
  simp only [List.forall_mem_cons]
  exact ⟨if_pos hm, if_pos hm, if_pos hm, nofun⟩

theorem exec_sendCmd_of_sat (hm : s.mode = .running) (hr : s.role = .sat) :
    exec (.sendCmd idx) s = .next (s.refuse .wrongRole) := by
  simp [exec, execSendCmd, hm, hr]

theorem exec_sendTel_of_hub (hm : s.mode = .running) (hr : s.role = .hub) :
    exec (.sendTel idx) s = .next (s.refuse .wrongRole) := by
  simp [exec, execSendTel, hm, hr]

theorem exec_sendTel_of_none (hm : s.mode = .running) (hr : s.role = .sat) (hi : slotOf idx = none) :
    exec (.sendTel idx) s = .next (s.refuse .badIndex) := by
  simp [exec, execSendTel, hm, hr, hi]

/-- `SEND_TEL` at a running satellite, with a valid index, offers the slot's record (R210, R213). -/
theorem exec_sendTel_of_some {i : Fin 15} (hm : s.mode = .running) (hr : s.role = .sat) (hi : slotOf idx = some i) :
    exec (.sendTel idx) s = .next (s.send (.tel i s.tel[i])) := by
  simp [exec, execSendTel, hm, hr, hi]

/-- `SEND_KEEPALIVE` asks for no role and no slot (R214). -/
theorem exec_sendKeepalive_of_running (hm : s.mode = .running) (imm : Ident) :
    exec (.sendKeepalive imm) s = .next (s.send (.ka imm)) := if_neg (not_not.mpr hm)

end Sends

/-- Settles O43: the slot's record is sent, and `BuildCmd` forces its index. -/
theorem sendCmdOffersTheForcedFrame : Obligations.SendCmdOffersTheForcedFrame := by
  intro s idx h hm hr
  rw [exec_sendCmd_of_some hm hr (slotOf_of_lt h) rfl, send_eq]
  rfl

/-- Settles O44: the slot's record is sent, and `BuildTel` forces its index only where the parameter asks for it. -/
theorem sendTelOffersTheRecord : Obligations.SendTelOffersTheRecord := by
  intro s idx h hm hr
  rw [exec_sendTel_of_some hm hr (slotOf_of_lt h), send_eq]
  rfl

/-- Settles O45: `BuildKa` is sent, which reads no state. -/
theorem sendKeepaliveOffersZeros : Obligations.SendKeepaliveOffersZeros := by
  intro s imm hm
  rw [exec_sendKeepalive_of_running hm, send_eq]
  rfl

/-- Settles O46, one check of R210 after another. -/
theorem sendsAreRefusedInOrder : Obligations.SendsAreRefusedInOrder := fun _ _ imm =>
  ⟨fun hm => exec_send_of_not_running hm imm, exec_sendCmd_of_sat, exec_sendTel_of_hub,
    fun hm hr hi => exec_sendCmd_of_none hm hr (slotOf_eq_none.mpr hi),
    fun hm hr hi => exec_sendTel_of_none hm hr (slotOf_eq_none.mpr hi)⟩

/-- Settles O49: whatever pushes a frame does so in `RUNNING`. -/
theorem nothingIsSentOutsideRunning : Obligations.NothingIsSentOutsideRunning := by
  intro i s hm
  obtain ⟨t, h, e⟩ := exec_transmits i s
  cases e with
  | silent hsent hpushes => exact ⟨t, h, hsent, hpushes⟩
  | pushed _ running => exact absurd running hm

/-! ### From one block to another -/

/-- A transmitted frame as another block's receive queue hands it over (R91, R92). -/
def TxFrame.received (g : TxFrame) : RxFrame := ⟨g.id, g.dlc, g.fdf, g.brs, g.data⟩

/-- In a valid configuration a base plus a motor index fits the 11 bits of an identifier (R106, R232). -/
theorem toNat_cmdIdent {bt bc : Ident} (hv : cfgValid bt bc = true) (i : Fin 15) :
    (BitVec.ofNat 11 (bc.toNat + i)).toNat = bc.toNat + i := by
  obtain ⟨-, fits, -⟩ := cfgValid_iff.mp hv
  rw [BitVec.toNat_ofNat, Nat.mod_eq_of_lt (by omega)]

/-- An index forced into a record selects its own slot, whatever the identifier's offset (R153, R207). -/
theorem resolve_ofNat (k i : Fin 15) : resolve k (BitVec.ofNat 32 i) = i := by
  have word : (BitVec.ofNat 32 i).toNat = i := by rw [BitVec.toNat_ofNat, Nat.mod_eq_of_lt (by omega)]
  exact (resolve_of_lt k (word.trans_lt i.isLt)).trans (Fin.ext word)

/-- A satellite of the same base and byte order recognizes `BuildCmd(i, r)` as the forced record for slot `i` (R169). -/
theorem recognize_buildCmd {s : State} {p : Config.Params} (hr : s.role = .sat) (hv : cfgValid s.baseT s.baseC = true)
    (he : p.endian = s.params.endian) (i : Fin 15) (r : CmdRecord) :
    recognize s (buildCmd p s.baseC i r).received = some (i, .cmd (r.withIndex (BitVec.ofNat 32 i))) := by
  have offset := toNat_cmdIdent hv i
  have class_cmd : classify s.baseT s.baseC (BitVec.ofNat 11 (s.baseC.toNat + i)) = .cmd i :=
    classify_eq_cmd_iff.mpr ⟨offset, not_telRange_of_cmdOffset hv offset⟩
  simp [recognize, TxFrame.received, buildCmd, txFrame, class_cmd, hr, inbound, he, decodeFrame_cmdPayload,
    Record.index, resolve_ofNat]

/-- Settles O50: the frame is `BuildCmd` of the slot, and the recognized path of the satellite stores it there. -/
theorem commandReachesItsSlotAtTheSatellite : Obligations.CommandReachesItsSlotAtTheSatellite := by
  intro h s idx hi hm hr hack sm sr hv hbase he
  have recognized := recognize_buildCmd sr hv he.symm ⟨idx.toNat, hi⟩ h.cmd[idx.toNat]
  rw [hbase] at recognized
  refine ⟨_, buildCmd h.params h.baseC ⟨idx.toNat, hi⟩ h.cmd[idx.toNat], _,
    exec_sendCmd_of_some hm hr (slotOf_of_lt hi) rfl, ?_, rfl, ?_⟩
  · simp [send_eq, hack, buildFrame]
  · rw [← TxFrame.received, rxFrame_of_recognize sm recognized]
    exact ⟨rfl, rfl, rfl⟩

end Sys2Proof.Machine
end

section
/-! The host port (spec/45_host_port_and_init.md R230 to R249): `INIT` by its tests, the table operations by what their
operands name, and the reads outside `RUNNING`. -/

namespace Sys2Proof.Machine

/-! ### `INIT` -/

/-- `INIT` is carried out once (R231). -/
theorem exec_init_of_configured {s : State} (hm : s.mode ≠ .unconfigured) (cfg : RoleConfig) :
    exec (.init cfg) s = .next (s.refuse .alreadyInit) := if_pos hm

/-- The filter is asked for only after the ranges have passed (R231). -/
theorem exec_init_of_invalid {s : State} {cfg : RoleConfig} (hm : s.mode = .unconfigured)
    (hv : cfgValid cfg.baseT cfg.baseC = false) : exec (.init cfg) s = .next (s.fail.refuse .cfgInvalid) := by
  simp [exec, execInit, hm, hv]

/-- With valid ranges the filter's answer decides (R231, R233). -/
theorem exec_init_of_valid {s : State} {cfg : RoleConfig} (hm : s.mode = .unconfigured)
    (hv : cfgValid cfg.baseT cfg.baseC = true) : exec (.init cfg) s =
      if s.filterAnswer then .next ((s.filterInstall.latch cfg).accept 0)
      else .next (s.filterInstall.fail.refuse .hwFail) := by
  simp [exec, execInit, hm, hv]

/-- Settles O10, one test of R231 after another. -/
theorem initFailsInTheOrderOfItsTests : Obligations.InitFailsInTheOrderOfItsTests := fun _ cfg =>
  ⟨fun hm => exec_init_of_configured hm cfg, exec_init_of_invalid,
    fun hm hv hf => (exec_init_of_valid hm hv).trans (if_neg (by simp [hf]))⟩

/-- Settles O9: every test passed, and the filter installed. -/
theorem initConfiguresTheBlock : Obligations.InitConfiguresTheBlock := fun _ _ hm hv hf =>
  (exec_init_of_valid hm hv).trans (if_pos hf)

/-- Two ranges of 15 numbers have none in common exactly when one ends before the other begins; if neither does, they
share the larger base. -/
theorem ranges_disjoint_iff (a b : Nat) : (a + 15 ≤ b ∨ b + 15 ≤ a) ↔
    ¬ ∃ n, (a ≤ n ∧ n ≤ a + 14) ∧ (b ≤ n ∧ n ≤ b + 14) := by
  constructor
  · rintro h ⟨n, ha, hb⟩
    omega
  · intro h
    have larger_base := not_exists.mp h (max a b)
    omega

/-- Settles O11: a range fits 11 bits when its base is at most 0x7F1. -/
theorem cfgValidMeansFittingDisjointRanges : Obligations.CfgValidMeansFittingDisjointRanges := by
  intro bt bc
  rw [cfgValid_iff, ranges_disjoint_iff]
  have fits (b : Ident) : b.toNat + 14 ≤ 0x7FF ↔ b.toNat ≤ 0x7F1 := by omega
  rw [fits, fits]

/-! ### The table operations -/

section Operands
variable {idx fld : BitVec 4}

/-- A telemetry word in range is named by its own numbers (R105). -/
theorem wordRef_tel_of_lt (hi : idx.toNat < 15) (hk : fld.toNat < 10) :
    wordRef .tel idx fld = some (.tel ⟨idx.toNat, hi⟩ ⟨fld.toNat, hk⟩) := by
  simp [wordRef, hi, hk]

/-- A command word in range is named by its own numbers (R105). -/
theorem wordRef_cmd_of_lt (hi : idx.toNat < 15) (hk : fld.toNat < 6) :
    wordRef .cmd idx fld = some (.cmd ⟨idx.toNat, hi⟩ ⟨fld.toNat, hk⟩) := by
  simp [wordRef, hi, hk]

/-- The local array, role by role (R27). -/
theorem eq_localArr_iff {arr : Arr} {role : Role} :
    arr = localArr role ↔ (arr = .tel ∧ role = .sat) ∨ (arr = .cmd ∧ role = .hub) := by
  cases role <;> simp [localArr]

/-- An array that is not the local one is the owned one (R27). -/
theorem ne_localArr_iff {arr : Arr} {role : Role} :
    arr ≠ localArr role ↔ (arr = .tel ∧ role = .hub) ∨ (arr = .cmd ∧ role = .sat) := by
  cases role <;> cases arr <;> simp [localArr]

end Operands

section Table
variable {s : State} {arr : Arr} {idx fld : BitVec 4}

/-- `TBL_READ` of a word in range (R240). -/
theorem exec_tblRead_of_some {p : WordRef} (hp : wordRef arr idx fld = some p) :
    exec (.tblRead arr idx fld) s = .next (s.accept (s.readWord p)) := by
  simp [exec, execTblRead, hp]

/-- `TBL_READ` with an operand out of range (R105, R240). -/
theorem exec_tblRead_of_none (hp : wordRef arr idx fld = none) :
    exec (.tblRead arr idx fld) s = .next (s.refuse .badIndex) := by
  simp [exec, execTblRead, hp]

/-- The first test of `TBL_WRITE` (R241, R263). -/
theorem exec_tblWrite_of_not_running (hm : s.mode ≠ .running) (v : Word) :
    exec (.tblWrite arr idx fld v) s = .next (s.refuse .notRunning) := if_pos hm

/-- The second test of `TBL_WRITE` (R241, R263). -/
theorem exec_tblWrite_of_ne_localArr (hm : s.mode = .running) (ha : arr ≠ localArr s.role) (v : Word) :
    exec (.tblWrite arr idx fld v) s = .next (s.refuse .wrongRole) := by
  simp [exec, execTblWrite, hm, ha]

end Table

/-- Settles O14, one test of R241 after another. -/
theorem tblWriteIsRefusedInOrder : Obligations.TblWriteIsRefusedInOrder := fun _ _ _ _ v =>
  ⟨fun hm => exec_tblWrite_of_not_running hm v,
    fun hm ha => exec_tblWrite_of_ne_localArr hm (ne_localArr_iff.mpr ha) v,
    fun hm ha hr => exec_tblWrite_of_none v hm (eq_localArr_iff.mpr ha) (wordRef_eq_none.mpr hr)⟩

/-- Settles O12: the word that the operands name, where they name one. -/
theorem tblReadReturnsTheWord : Obligations.TblReadReturnsTheWord := fun _ _ _ =>
  ⟨fun hi hk => exec_tblRead_of_some (wordRef_tel_of_lt hi hk),
    fun hi hk => exec_tblRead_of_some (wordRef_cmd_of_lt hi hk),
    fun _ hr => exec_tblRead_of_none (wordRef_eq_none.mpr hr)⟩

/-- Settles O13: the word lies in the array that is local to the role. -/
theorem tblWriteStoresOneLocalWord : Obligations.TblWriteStoresOneLocalWord := fun _ _ _ v hm =>
  ⟨fun hi hk hr => exec_tblWrite_of_some v hm (eq_localArr_iff.mpr (.inl ⟨rfl, hr⟩)) (wordRef_tel_of_lt hi hk),
    fun hi hk hr => exec_tblWrite_of_some v hm (eq_localArr_iff.mpr (.inr ⟨rfl, hr⟩)) (wordRef_cmd_of_lt hi hk)⟩

/-! ### Operations without effect -/

/-- Settles O7: `NOP` is its response. -/
theorem nopOnlyResponds : Obligations.NopOnlyResponds := fun _ => rfl

/-- Settles O8: each reserved code is the one refusal. -/
theorem reservedCodesAreRefused : Obligations.ReservedCodesAreRefused := by
  intro s
  simp only [List.forall_mem_cons]
  exact ⟨rfl, rfl, rfl, rfl, rfl, rfl, nofun⟩

/-! ### Reads outside `RUNNING` -/

/-- Every word of the table is zero after reset (R50). -/
theorem State.Untouched.readWord_eq_zero {s : State} (hu : s.Untouched) (p : WordRef) : s.readWord p = 0 := by
  cases p with
  | tel i k => simp [State.readWord, hu.tel, TelRecord.zero]
  | cmd i k => simp [State.readWord, hu.cmd, CmdRecord.zero]

/-- Settles O17: the invariant has every element but the mode at its reset value. -/
theorem readsOutsideRunningGiveResetValues : Obligations.ReadsOutsideRunningGiveResetValues := by
  intro s hs hm
  have hu : s.Untouched := hs.idle hm
  have no_snapshot : s.diag.pending = false := by rw [hu.diag]; rfl
  refine ⟨⟨_, exec_consumeTicks s, ?_⟩, ⟨_, exec_getDiag_of_not_pending no_snapshot, rfl⟩,
    fun arr idx fld p hp => ⟨_, exec_tblRead_of_some hp, ?_⟩⟩
  · rw [hu.tick]; rfl
  · rw [hu.readWord_eq_zero]; rfl

end Sys2Proof.Machine
end

section
/-! One response for every host operation, and none for anything else (spec/00_scope.md R16, spec/30_encoding.md R102,
spec/45_host_port_and_init.md R250). -/

namespace Sys2Proof.Machine

/-- The cause and the data of a response agree with its `ok` (R102, R262). -/
def Response.Agrees (r : Response) : Prop :=
  (r.ok = true ↔ r.cause = .none) ∧ (r.ok = false → r.rdata = 0 ∧ r.diag = none)

/-- `o` is a next state with exactly one response more than `s`, and that one agrees with itself. -/
def AnsweredOnce (s : State) (o : Result) : Prop :=
  ∃ t, o = .next t ∧ ∃ r : Response, t.env.responses = s.env.responses ++ [r] ∧ r.Agrees

/-- `o` is a next state with the responses of `s`. -/
def Unanswered (s : State) (o : Result) : Prop := ∃ t, o = .next t ∧ t.env.responses = s.env.responses

/-! ### The shared operations -/

theorem Response.Agrees.accepted (v : Word) (d : Option RxFrame) : (⟨true, .none, v, d⟩ : Response).Agrees :=
  ⟨iff_of_true rfl rfl, nofun⟩

theorem Response.Agrees.refused {c : Cause} (hc : c ≠ .none) : (⟨false, c, 0, none⟩ : Response).Agrees :=
  ⟨iff_of_false nofun hc, fun _ => ⟨rfl, rfl⟩⟩

section Shared
variable {s t : State}

/-- A response after an effect that gave none. -/
theorem answeredOnce_respond (h : t.env.responses = s.env.responses) {r : Response} (hr : r.Agrees) :
    AnsweredOnce s (.next (t.respond r)) := ⟨_, rfl, r, congrArg (· ++ [r]) h, hr⟩

theorem answeredOnce_accept (h : t.env.responses = s.env.responses) (v : Word) :
    AnsweredOnce s (.next (t.accept v)) := answeredOnce_respond h (.accepted v none)

theorem answeredOnce_refuse {c : Cause} (h : t.env.responses = s.env.responses := by rfl)
    (hc : c ≠ .none := by decide) : AnsweredOnce s (.next (t.refuse c)) := answeredOnce_respond h (.refused hc)

/-- A check that refuses where it fails, before whatever is answered once (R263). -/
theorem answeredOnce_check {c : Cause} {failed : Prop} [Decidable failed] {o : Result} (ho : AnsweredOnce s o)
    (h : t.env.responses = s.env.responses := by rfl) (hc : c ≠ .none := by decide) :
    AnsweredOnce s (if failed then .next (t.refuse c) else o) := by
  split
  · exact answeredOnce_refuse h hc
  · exact ho

/-- A send is answered as the controller answers (R211). -/
theorem answeredOnce_send (k : FrameKind) : AnsweredOnce s (.next (s.send k)) := by
  refine ⟨_, rfl, _, by rw [send_eq], ?_⟩
  split
  · exact .accepted 0 none
  · exact .refused nofun

end Shared

/-! ### Each host operation -/

section Meanings
variable (s : State)

theorem execInit_answeredOnce (cfg : RoleConfig) : AnsweredOnce s (execInit cfg s) := by
  unfold execInit
  refine answeredOnce_check (answeredOnce_check ?_)
  split
  · exact answeredOnce_accept rfl 0
  · exact answeredOnce_refuse

theorem execGetDiag_answeredOnce : AnsweredOnce s (execGetDiag s) := by
  unfold execGetDiag
  split
  · exact answeredOnce_respond rfl (.accepted 0 _)
  · exact answeredOnce_respond rfl (.accepted 0 none)

theorem execSendCmd_answeredOnce (idx : BitVec 4) : AnsweredOnce s (execSendCmd idx s) := by
  unfold execSendCmd
  refine answeredOnce_check (answeredOnce_check ?_)
  cases slotOf idx with
  | none => exact answeredOnce_refuse
  | some i => exact answeredOnce_send _

theorem execSendTel_answeredOnce (idx : BitVec 4) : AnsweredOnce s (execSendTel idx s) := by
  unfold execSendTel
  refine answeredOnce_check (answeredOnce_check ?_)
  cases slotOf idx with
  | none => exact answeredOnce_refuse
  | some i => exact answeredOnce_send _

theorem execSendKeepalive_answeredOnce (id : Ident) : AnsweredOnce s (execSendKeepalive id s) := by
  unfold execSendKeepalive
  exact answeredOnce_check (answeredOnce_send _)

theorem execTblRead_answeredOnce (arr : Arr) (idx fld : BitVec 4) : AnsweredOnce s (execTblRead arr idx fld s) := by
  unfold execTblRead
  split
  · exact answeredOnce_refuse
  · exact answeredOnce_accept rfl _

theorem execTblWrite_answeredOnce (arr : Arr) (idx fld : BitVec 4) (v : Word) :
    AnsweredOnce s (execTblWrite arr idx fld v s) := by
  unfold execTblWrite
  refine answeredOnce_check (answeredOnce_check ?_)
  cases wordRef arr idx fld with
  | none => exact answeredOnce_refuse
  | some p => exact answeredOnce_accept (by rw [State.writeWord_env]) 0

theorem execRdCsr_answeredOnce (imm : BitVec 11) : AnsweredOnce s (execRdCsr imm s) := by
  unfold execRdCsr
  split
  · exact answeredOnce_refuse
  · exact answeredOnce_accept rfl _

end Meanings

/-- Every host operation is answered at once (R16, R250). -/
theorem exec_answeredOnce {i : Instr} (hc : context i = .mainLoop) (s : State) : AnsweredOnce s (exec i s) := by
  cases i with
  | nop => exact answeredOnce_accept rfl 0
  | init cfg => exact execInit_answeredOnce s cfg
  | consumeTicks => exact answeredOnce_accept rfl _
  | getDiag => exact execGetDiag_answeredOnce s
  | sendCmd idx => exact execSendCmd_answeredOnce s idx
  | sendTel idx => exact execSendTel_answeredOnce s idx
  | sendKeepalive id => exact execSendKeepalive_answeredOnce s id
  | tblRead arr idx fld => exact execTblRead_answeredOnce s arr idx fld
  | tblWrite arr idx fld v => exact execTblWrite_answeredOnce s arr idx fld v
  | rdCsr imm => exact execRdCsr_answeredOnce s imm
  | reservedA | reservedB | reservedC | reservedD | reservedE | reservedF => exact answeredOnce_refuse
  | tick | rxAct | rxFrame | rxErr | reset | rxdTel | rxdCmd | rxdUnrec | txdCmd | txdKa | txdTel => cases hc

/-! ### Everything else -/

section Events
variable (s : State)

theorem execTick_unanswered : Unanswered s (execTick s) := by
  unfold execTick
  split
  · exact ⟨_, rfl, by rw [State.countTick_env]⟩
  · exact ⟨_, rfl, rfl⟩

theorem execRxAct_unanswered : Unanswered s (execRxAct s) := by
  unfold execRxAct
  split
  · obtain ⟨-, -, -, -, -, -, -, env⟩ := foldl_rxFrame_frame (drained s.env.rxAnswers)
      { s with env := { s.env with rxAnswers := undrained s.env.rxAnswers } }
    exact ⟨_, rfl, by rw [drain_eq_foldl, env]⟩
  · exact ⟨_, rfl, rfl⟩

theorem offer_unanswered (b : Bool) (g : TxFrame) : Unanswered s (.next (s.offer b g)) := by
  obtain ⟨-, -, h⟩ | h := offer_cases s b g
  · exact ⟨_, rfl, by rw [h, State.txPush_env]⟩
  · exact ⟨_, rfl, by rw [h]⟩

end Events

/-- A response answers a host request only (R102). -/
theorem exec_unanswered {i : Instr} (hc : context i ≠ .mainLoop) (s : State) : Unanswered s (exec i s) := by
  cases i with
  | tick => exact execTick_unanswered s
  | rxAct => exact execRxAct_unanswered s
  | rxErr | reset => exact ⟨_, rfl, rfl⟩
  | rxFrame f | rxdTel f | rxdCmd f | rxdUnrec f => exact ⟨_, rfl, by rw [rxFrame_env]⟩
  | txdCmd | txdKa | txdTel => exact offer_unanswered s _ _
  | nop | init | consumeTicks | getDiag | sendCmd | sendTel | sendKeepalive | tblRead | tblWrite | rdCsr | reservedA
  | reservedB | reservedC | reservedD | reservedE | reservedF => exact absurd rfl hc

/-- Settles O59, by the context of the operation or event. -/
theorem everyHostOperationIsAnsweredOnce : Obligations.EveryHostOperationIsAnsweredOnce := by
  intro i s
  by_cases hc : context i = .mainLoop
  · obtain ⟨t, h, answered⟩ := exec_answeredOnce hc s
    exact ⟨t, h, fun _ => answered, fun hn => absurd hc hn⟩
  · obtain ⟨t, h, unanswered⟩ := exec_unanswered hc s
    exact ⟨t, h, fun hh => absurd hh hc, fun _ => unanswered⟩

end Sys2Proof.Machine
end

section
/-! Totality (spec/60_exceptions.md R260, spec/70_reset_and_hazards.md R331): nothing the block performs stops it; a run
can stop only at the transfer it takes. -/

namespace Sys2Proof.Machine

/-- Every operation and event has a next state, in every state (R260). -/
theorem exec_total (i : Instr) (s : State) : ∃ t, exec i s = .next t := by
  obtain ⟨t, h, -⟩ := exec_effect i s
  exact ⟨t, h⟩

/-- A step stops at a transfer that is neither an operation nor an event (R91, R92; log entry 7). -/
theorem step_of_badTransfer {s : State} {x : Transfer} {rest : List Transfer} {why : DecodeError}
    (h : s.env.inbox = x :: rest) (hx : decode x = .error why) : step s = .refused (.badTransfer why) := by
  simp [step, State.nextTransfer, h, hx]

/-- Settles O60, by the next transfer and what it decodes to. -/
theorem blockTakesNoTrap : Obligations.BlockTakesNoTrap := by
  refine ⟨exec_total, fun s => ?_⟩
  cases h : s.env.inbox with
  | nil => exact .inl ⟨s, step_of_inbox_nil h⟩
  | cons x rest =>
    cases hx : decode x with
    | ok i =>
      rw [step_of_inbox_cons h hx]
      exact .inl (exec_total i _)
    | error why => exact .inr ⟨x, rest, why, rfl, hx, step_of_badTransfer h hx⟩

end Sys2Proof.Machine
end

section
/-! Hazards between two blocks (spec/70_reset_and_hazards.md R305, R316): what an index word becomes under the other byte
order, and what a satellite makes of a keepalive inside the command range. -/

namespace Sys2Proof.Machine
open Sys2Proof.Config

/-! ### A mismatch of byte order -/

/-- Bytes written under one order and read under the other give the word with its four bytes reversed (R12). -/
theorem word32_bytes32_of_ne {e e' : Endian} (hne : e ≠ e') (w : Word) : word32 e' (bytes32 e w) =
    w.extractLsb' 0 8 ++ w.extractLsb' 8 8 ++ w.extractLsb' 16 8 ++ w.extractLsb' 24 8 := by
  match e, e' with
  | .le, .be | .be, .le => rfl
  | .le, .le | .be, .be => exact absurd rfl hne

/-- The lowest byte of a word is read as the highest one under the other order. -/
theorem misread_highByte {e e' : Endian} (hne : e ≠ e') (w : Word) :
    (word32 e' (bytes32 e w)).extractLsb' 24 8 = w.extractLsb' 0 8 := by
  obtain ⟨-, -, -, high⟩ :=
    extract_append_bytes (w.extractLsb' 0 8) (w.extractLsb' 8 8) (w.extractLsb' 16 8) (w.extractLsb' 24 8)
  rw [word32_bytes32_of_ne hne, high]

/-- A word whose lowest byte is not zero is read as `2 ^ 24` or more under the other order. -/
theorem le_misread {e e' : Endian} (hne : e ≠ e') {w : Word} (hw : w.toNat % 256 ≠ 0) :
    2 ^ 24 ≤ (word32 e' (bytes32 e w)).toNat := by
  have high := congrArg BitVec.toNat (misread_highByte hne w)
  simp only [BitVec.extractLsb'_toNat, Nat.shiftRight_eq_div_pow] at high
  omega

/-- Settles O30: an index from 1 to 14 is its word's lowest byte, and the word 0 has four equal bytes. -/
theorem byteOrderMismatchInvalidatesTheIndex : Obligations.ByteOrderMismatchInvalidatesTheIndex := by
  intro e e' hne
  refine ⟨fun w hlow hhigh => ?_, word32_bytes32_of_ne hne 0⟩
  have large : 2 ^ 24 ≤ (word32 e' (bytes32 e w)).toNat := le_misread hne (by omega)
  omega

/-! ### A keepalive inside the command range -/

/-- A keepalive begins with the image of the all-zero command record, in either byte order (R133, R135). -/
theorem take_kaPayload (e : Endian) : kaPayload.take 24 = encCmd e CmdRecord.zero := by cases e <;> rfl

/-- A keepalive is long enough for a command, and decodes to the all-zero record (R136). -/
theorem decodeFrame_kaPayload (e : Endian) : decodeFrame e .cmdCat kaPayload = some (.cmd CmdRecord.zero) := by
  rw [decodeFrame_cmdCat, take_kaPayload e, decCmd_encCmd, if_pos (by decide)]

/-- A satellite recognizes a keepalive of the command range as the all-zero record, for the slot its index 0 names
(R153, R169). -/
theorem recognize_buildKa {s : State} {id : Ident} {k : Fin 15} (hr : s.role = .sat)
    (hv : cfgValid s.baseT s.baseC = true) (hid : id.toNat = s.baseC.toNat + k) :
    recognize s (buildKa id).received = some (0, .cmd CmdRecord.zero) := by
  have class_cmd : classify s.baseT s.baseC id = .cmd k :=
    classify_eq_cmd_iff.mpr ⟨hid, not_telRange_of_cmdOffset hv hid⟩
  have slot_zero : resolve k CmdRecord.zero.index = 0 := resolve_ofNat k 0
  simp [recognize, TxFrame.received, buildKa, txFrame, class_cmd, hr, inbound, decodeFrame_kaPayload, Record.index,
    slot_zero]

/-- Settles O51: the frame is `BuildKa`, and the recognized path of the satellite stores its zeros in slot 0. -/
theorem keepaliveInCommandRangeZeroesSlotZero : Obligations.KeepaliveInCommandRangeZeroesSlotZero := by
  intro h s imm k hm hack sm sr hv hid
  refine ⟨_, buildKa imm, _, exec_sendKeepalive_of_running hm imm, ?_, rfl, ?_⟩
  · simp [send_eq, hack, buildFrame]
  · rw [← TxFrame.received, rxFrame_of_recognize sm (recognize_buildKa sr hv hid)]
    rfl

end Sys2Proof.Machine
end
